-- ==== Sys2Proof/Word.lean ====
section
/-! DEFINITION. The word types of the machine (00_scope.md section 4, section 6). -/

namespace Sys2Proof

/-- A byte of memory and the width of the general registers (00_scope.md section 4). -/
abbrev Byte := BitVec 8

/-- An address, SP, PC and a register pair: 16 bits (00_scope.md section 4). -/
abbrev Word := BitVec 16

/-- A colour index before palette mapping, or a shade after it: 0 to 3 (00_scope.md section 8). -/
abbrev Colour := BitVec 2

end Sys2Proof
end

