-- ==== Sys2Proof/Syntax.lean ====
section
/-! DEFINITION. The instructions: one constructor for each of the 512 rows of spec/opcode_table.json, with the operand
bytes the row carries (30_encoding.md R71, R75, R76), and the operand fields of 10_state.md R13, R14, R19. A constructor is
named after the row's mnemonic: a parenthesised operand is written `at…`, `(HL+)` is `atHlInc`, `(HL-)` is `atHlDec`. -/

namespace Sys2Proof

/-- The registers of the 3-bit register field (10_state.md R13). Index 6, `(HL)`, has its own instruction forms. -/
inductive Reg8 where
  | b
  | c
  | d
  | e
  | h
  | l
  | a
  deriving DecidableEq, Repr

/-- The pair field of loads, INC, DEC and ADD HL (R14). -/
inductive Pair where
  | bc
  | de
  | hl
  | sp
  deriving DecidableEq, Repr

/-- The pair field of PUSH and POP (R14). -/
inductive StackPair where
  | bc
  | de
  | hl
  | af
  deriving DecidableEq, Repr

/-- The condition field (R19). -/
inductive Cond where
  | nz
  | z
  | nc
  | c
  deriving DecidableEq, Repr

/-- The eight ALU operations (42_alu8.md section 2). -/
inductive AluOp where
  | add
  | adc
  | sub
  | sbc
  | and
  | xor
  | or
  | cp
  deriving DecidableEq, Repr

/-- The eight operations of the first group of the CB table (44_rotate_shift_bit.md section 2). -/
inductive RotOp where
  | rlc
  | rrc
  | rl
  | rr
  | sla
  | sra
  | swap
  | srl
  deriving DecidableEq, Repr

/-- The eleven main-table bytes without a handler (30_encoding.md R78). -/
inductive Unassigned where
  | xd3
  | xdb
  | xdd
  | xe3
  | xe4
  | xeb
  | xec
  | xed
  | xf4
  | xfc
  | xfd
  deriving DecidableEq, Repr

/-- The two opcode tables (30_encoding.md R75, R76). -/
inductive Table where
  | main
  | cb
  deriving DecidableEq, Repr

/-- An instruction. The rows with operand bytes come first, then the rest in the order of the table: the compiled
code of Lean numbers only the first constructors that carry data. -/
inductive Instr where
  /-- `LD BC,d16`, 0x01, R120 -/
  | ld_bc_d16 (nn : Word)
  /-- `LD B,d8`, 0x06, R101 -/
  | ld_b_d8 (n : Byte)
  /-- `LD (a16),SP`, 0x08, R121 -/
  | ld_atA16_sp (nn : Word)
  /-- `LD C,d8`, 0x0E, R101 -/
  | ld_c_d8 (n : Byte)
  /-- `STOP`, 0x10, R233 -/
  | stop (n : Byte)
  /-- `LD DE,d16`, 0x11, R120 -/
  | ld_de_d16 (nn : Word)
  /-- `LD D,d8`, 0x16, R101 -/
  | ld_d_d8 (n : Byte)
  /-- `JR e`, 0x18, R213 -/
  | jr_e (e : Byte)
  /-- `LD E,d8`, 0x1E, R101 -/
  | ld_e_d8 (n : Byte)
  /-- `JR NZ,e`, 0x20, R214 -/
  | jr_nz_e (e : Byte)
  /-- `LD HL,d16`, 0x21, R120 -/
  | ld_hl_d16 (nn : Word)
  /-- `LD H,d8`, 0x26, R101 -/
  | ld_h_d8 (n : Byte)
  /-- `JR Z,e`, 0x28, R214 -/
  | jr_z_e (e : Byte)
  /-- `LD L,d8`, 0x2E, R101 -/
  | ld_l_d8 (n : Byte)
  /-- `JR NC,e`, 0x30, R214 -/
  | jr_nc_e (e : Byte)
  /-- `LD SP,d16`, 0x31, R120 -/
  | ld_sp_d16 (nn : Word)
  /-- `LD (HL),d8`, 0x36, R104 -/
  | ld_atHl_d8 (n : Byte)
  /-- `JR C,e`, 0x38, R214 -/
  | jr_c_e (e : Byte)
  /-- `LD A,d8`, 0x3E, R101 -/
  | ld_a_d8 (n : Byte)
  /-- `JP NZ,a16`, 0xC2, R211 -/
  | jp_nz_a16 (nn : Word)
  /-- `JP a16`, 0xC3, R210 -/
  | jp_a16 (nn : Word)
  /-- `CALL NZ,a16`, 0xC4, R216 -/
  | call_nz_a16 (nn : Word)
  /-- `ADD A,d8`, 0xC6, R140 -/
  | add_a_d8 (n : Byte)
  /-- `JP Z,a16`, 0xCA, R211 -/
  | jp_z_a16 (nn : Word)
  /-- `CALL Z,a16`, 0xCC, R216 -/
  | call_z_a16 (nn : Word)
  /-- `CALL a16`, 0xCD, R215 -/
  | call_a16 (nn : Word)
  /-- `ADC A,d8`, 0xCE, R143 -/
  | adc_a_d8 (n : Byte)
  /-- `JP NC,a16`, 0xD2, R211 -/
  | jp_nc_a16 (nn : Word)
  /-- `CALL NC,a16`, 0xD4, R216 -/
  | call_nc_a16 (nn : Word)
  /-- `SUB A,d8`, 0xD6, R146 -/
  | sub_a_d8 (n : Byte)
  /-- `JP C,a16`, 0xDA, R211 -/
  | jp_c_a16 (nn : Word)
  /-- `CALL C,a16`, 0xDC, R216 -/
  | call_c_a16 (nn : Word)
  /-- `SBC A,d8`, 0xDE, R149 -/
  | sbc_a_d8 (n : Byte)
  /-- `LDH (a8),A`, 0xE0, R112 -/
  | ldh_atA8_a (n : Byte)
  /-- `AND A,d8`, 0xE6, R152 -/
  | and_a_d8 (n : Byte)
  /-- `ADD SP,e`, 0xE8, R173 -/
  | add_sp_e (e : Byte)
  /-- `LD (a16),A`, 0xEA, R110 -/
  | ld_atA16_a (nn : Word)
  /-- `XOR A,d8`, 0xEE, R155 -/
  | xor_a_d8 (n : Byte)
  /-- `LDH A,(a8)`, 0xF0, R111 -/
  | ldh_a_atA8 (n : Byte)
  /-- `OR A,d8`, 0xF6, R158 -/
  | or_a_d8 (n : Byte)
  /-- `LD HL,SP+e`, 0xF8, R123 -/
  | ld_hl_sp_e (e : Byte)
  /-- `LD A,(a16)`, 0xFA, R109 -/
  | ld_a_atA16 (nn : Word)
  /-- `CP A,d8`, 0xFE, R161 -/
  | cp_a_d8 (n : Byte)
  /-- `NOP`, 0x00, R230 -/
  | nop
  /-- `LD (BC),A`, 0x02, R107 -/
  | ld_atBc_a
  /-- `INC BC`, 0x03, R171 -/
  | inc_bc
  /-- `INC B`, 0x04, R162 -/
  | inc_b
  /-- `DEC B`, 0x05, R164 -/
  | dec_b
  /-- `RLCA`, 0x07, R180 -/
  | rlca
  /-- `ADD HL,BC`, 0x09, R170 -/
  | add_hl_bc
  /-- `LD A,(BC)`, 0x0A, R105 -/
  | ld_a_atBc
  /-- `DEC BC`, 0x0B, R172 -/
  | dec_bc
  /-- `INC C`, 0x0C, R162 -/
  | inc_c
  /-- `DEC C`, 0x0D, R164 -/
  | dec_c
  /-- `RRCA`, 0x0F, R182 -/
  | rrca
  /-- `LD (DE),A`, 0x12, R108 -/
  | ld_atDe_a
  /-- `INC DE`, 0x13, R171 -/
  | inc_de
  /-- `INC D`, 0x14, R162 -/
  | inc_d
  /-- `DEC D`, 0x15, R164 -/
  | dec_d
  /-- `RLA`, 0x17, R181 -/
  | rla
  /-- `ADD HL,DE`, 0x19, R170 -/
  | add_hl_de
  /-- `LD A,(DE)`, 0x1A, R106 -/
  | ld_a_atDe
  /-- `DEC DE`, 0x1B, R172 -/
  | dec_de
  /-- `INC E`, 0x1C, R162 -/
  | inc_e
  /-- `DEC E`, 0x1D, R164 -/
  | dec_e
  /-- `RRA`, 0x1F, R183 -/
  | rra
  /-- `LD (HL+),A`, 0x22, R115 -/
  | ld_atHlInc_a
  /-- `INC HL`, 0x23, R171 -/
  | inc_hl
  /-- `INC H`, 0x24, R162 -/
  | inc_h
  /-- `DEC H`, 0x25, R164 -/
  | dec_h
  /-- `DAA`, 0x27, R166 -/
  | daa
  /-- `ADD HL,HL`, 0x29, R170 -/
  | add_hl_hl
  /-- `LD A,(HL+)`, 0x2A, R117 -/
  | ld_a_atHlInc
  /-- `DEC HL`, 0x2B, R172 -/
  | dec_hl
  /-- `INC L`, 0x2C, R162 -/
  | inc_l
  /-- `DEC L`, 0x2D, R164 -/
  | dec_l
  /-- `CPL`, 0x2F, R167 -/
  | cpl
  /-- `LD (HL-),A`, 0x32, R116 -/
  | ld_atHlDec_a
  /-- `INC SP`, 0x33, R171 -/
  | inc_sp
  /-- `INC (HL)`, 0x34, R163 -/
  | inc_atHl
  /-- `DEC (HL)`, 0x35, R165 -/
  | dec_atHl
  /-- `SCF`, 0x37, R168 -/
  | scf
  /-- `ADD HL,SP`, 0x39, R170 -/
  | add_hl_sp
  /-- `LD A,(HL-)`, 0x3A, R118 -/
  | ld_a_atHlDec
  /-- `DEC SP`, 0x3B, R172 -/
  | dec_sp
  /-- `INC A`, 0x3C, R162 -/
  | inc_a
  /-- `DEC A`, 0x3D, R164 -/
  | dec_a
  /-- `CCF`, 0x3F, R169 -/
  | ccf
  /-- `LD B,B`, 0x40, R100 -/
  | ld_b_b
  /-- `LD B,C`, 0x41, R100 -/
  | ld_b_c
  /-- `LD B,D`, 0x42, R100 -/
  | ld_b_d
  /-- `LD B,E`, 0x43, R100 -/
  | ld_b_e
  /-- `LD B,H`, 0x44, R100 -/
  | ld_b_h
  /-- `LD B,L`, 0x45, R100 -/
  | ld_b_l
  /-- `LD B,(HL)`, 0x46, R102 -/
  | ld_b_atHl
  /-- `LD B,A`, 0x47, R100 -/
  | ld_b_a
  /-- `LD C,B`, 0x48, R100 -/
  | ld_c_b
  /-- `LD C,C`, 0x49, R100 -/
  | ld_c_c
  /-- `LD C,D`, 0x4A, R100 -/
  | ld_c_d
  /-- `LD C,E`, 0x4B, R100 -/
  | ld_c_e
  /-- `LD C,H`, 0x4C, R100 -/
  | ld_c_h
  /-- `LD C,L`, 0x4D, R100 -/
  | ld_c_l
  /-- `LD C,(HL)`, 0x4E, R102 -/
  | ld_c_atHl
  /-- `LD C,A`, 0x4F, R100 -/
  | ld_c_a
  /-- `LD D,B`, 0x50, R100 -/
  | ld_d_b
  /-- `LD D,C`, 0x51, R100 -/
  | ld_d_c
  /-- `LD D,D`, 0x52, R100 -/
  | ld_d_d
  /-- `LD D,E`, 0x53, R100 -/
  | ld_d_e
  /-- `LD D,H`, 0x54, R100 -/
  | ld_d_h
  /-- `LD D,L`, 0x55, R100 -/
  | ld_d_l
  /-- `LD D,(HL)`, 0x56, R102 -/
  | ld_d_atHl
  /-- `LD D,A`, 0x57, R100 -/
  | ld_d_a
  /-- `LD E,B`, 0x58, R100 -/
  | ld_e_b
  /-- `LD E,C`, 0x59, R100 -/
  | ld_e_c
  /-- `LD E,D`, 0x5A, R100 -/
  | ld_e_d
  /-- `LD E,E`, 0x5B, R100 -/
  | ld_e_e
  /-- `LD E,H`, 0x5C, R100 -/
  | ld_e_h
  /-- `LD E,L`, 0x5D, R100 -/
  | ld_e_l
  /-- `LD E,(HL)`, 0x5E, R102 -/
  | ld_e_atHl
  /-- `LD E,A`, 0x5F, R100 -/
  | ld_e_a
  /-- `LD H,B`, 0x60, R100 -/
  | ld_h_b
  /-- `LD H,C`, 0x61, R100 -/
  | ld_h_c
  /-- `LD H,D`, 0x62, R100 -/
  | ld_h_d
  /-- `LD H,E`, 0x63, R100 -/
  | ld_h_e
  /-- `LD H,H`, 0x64, R100 -/
  | ld_h_h
  /-- `LD H,L`, 0x65, R100 -/
  | ld_h_l
  /-- `LD H,(HL)`, 0x66, R102 -/
  | ld_h_atHl
  /-- `LD H,A`, 0x67, R100 -/
  | ld_h_a
  /-- `LD L,B`, 0x68, R100 -/
  | ld_l_b
  /-- `LD L,C`, 0x69, R100 -/
  | ld_l_c
  /-- `LD L,D`, 0x6A, R100 -/
  | ld_l_d
  /-- `LD L,E`, 0x6B, R100 -/
  | ld_l_e
  /-- `LD L,H`, 0x6C, R100 -/
  | ld_l_h
  /-- `LD L,L`, 0x6D, R100 -/
  | ld_l_l
  /-- `LD L,(HL)`, 0x6E, R102 -/
  | ld_l_atHl
  /-- `LD L,A`, 0x6F, R100 -/
  | ld_l_a
  /-- `LD (HL),B`, 0x70, R103 -/
  | ld_atHl_b
  /-- `LD (HL),C`, 0x71, R103 -/
  | ld_atHl_c
  /-- `LD (HL),D`, 0x72, R103 -/
  | ld_atHl_d
  /-- `LD (HL),E`, 0x73, R103 -/
  | ld_atHl_e
  /-- `LD (HL),H`, 0x74, R103 -/
  | ld_atHl_h
  /-- `LD (HL),L`, 0x75, R103 -/
  | ld_atHl_l
  /-- `HALT`, 0x76, R231 -/
  | halt
  /-- `LD (HL),A`, 0x77, R103 -/
  | ld_atHl_a
  /-- `LD A,B`, 0x78, R100 -/
  | ld_a_b
  /-- `LD A,C`, 0x79, R100 -/
  | ld_a_c
  /-- `LD A,D`, 0x7A, R100 -/
  | ld_a_d
  /-- `LD A,E`, 0x7B, R100 -/
  | ld_a_e
  /-- `LD A,H`, 0x7C, R100 -/
  | ld_a_h
  /-- `LD A,L`, 0x7D, R100 -/
  | ld_a_l
  /-- `LD A,(HL)`, 0x7E, R102 -/
  | ld_a_atHl
  /-- `LD A,A`, 0x7F, R100 -/
  | ld_a_a
  /-- `ADD A,B`, 0x80, R138 -/
  | add_a_b
  /-- `ADD A,C`, 0x81, R138 -/
  | add_a_c
  /-- `ADD A,D`, 0x82, R138 -/
  | add_a_d
  /-- `ADD A,E`, 0x83, R138 -/
  | add_a_e
  /-- `ADD A,H`, 0x84, R138 -/
  | add_a_h
  /-- `ADD A,L`, 0x85, R138 -/
  | add_a_l
  /-- `ADD A,(HL)`, 0x86, R139 -/
  | add_a_atHl
  /-- `ADD A,A`, 0x87, R138 -/
  | add_a_a
  /-- `ADC A,B`, 0x88, R141 -/
  | adc_a_b
  /-- `ADC A,C`, 0x89, R141 -/
  | adc_a_c
  /-- `ADC A,D`, 0x8A, R141 -/
  | adc_a_d
  /-- `ADC A,E`, 0x8B, R141 -/
  | adc_a_e
  /-- `ADC A,H`, 0x8C, R141 -/
  | adc_a_h
  /-- `ADC A,L`, 0x8D, R141 -/
  | adc_a_l
  /-- `ADC A,(HL)`, 0x8E, R142 -/
  | adc_a_atHl
  /-- `ADC A,A`, 0x8F, R141 -/
  | adc_a_a
  /-- `SUB A,B`, 0x90, R144 -/
  | sub_a_b
  /-- `SUB A,C`, 0x91, R144 -/
  | sub_a_c
  /-- `SUB A,D`, 0x92, R144 -/
  | sub_a_d
  /-- `SUB A,E`, 0x93, R144 -/
  | sub_a_e
  /-- `SUB A,H`, 0x94, R144 -/
  | sub_a_h
  /-- `SUB A,L`, 0x95, R144 -/
  | sub_a_l
  /-- `SUB A,(HL)`, 0x96, R145 -/
  | sub_a_atHl
  /-- `SUB A,A`, 0x97, R144 -/
  | sub_a_a
  /-- `SBC A,B`, 0x98, R147 -/
  | sbc_a_b
  /-- `SBC A,C`, 0x99, R147 -/
  | sbc_a_c
  /-- `SBC A,D`, 0x9A, R147 -/
  | sbc_a_d
  /-- `SBC A,E`, 0x9B, R147 -/
  | sbc_a_e
  /-- `SBC A,H`, 0x9C, R147 -/
  | sbc_a_h
  /-- `SBC A,L`, 0x9D, R147 -/
  | sbc_a_l
  /-- `SBC A,(HL)`, 0x9E, R148 -/
  | sbc_a_atHl
  /-- `SBC A,A`, 0x9F, R147 -/
  | sbc_a_a
  /-- `AND A,B`, 0xA0, R150 -/
  | and_a_b
  /-- `AND A,C`, 0xA1, R150 -/
  | and_a_c
  /-- `AND A,D`, 0xA2, R150 -/
  | and_a_d
  /-- `AND A,E`, 0xA3, R150 -/
  | and_a_e
  /-- `AND A,H`, 0xA4, R150 -/
  | and_a_h
  /-- `AND A,L`, 0xA5, R150 -/
  | and_a_l
  /-- `AND A,(HL)`, 0xA6, R151 -/
  | and_a_atHl
  /-- `AND A,A`, 0xA7, R150 -/
  | and_a_a
  /-- `XOR A,B`, 0xA8, R153 -/
  | xor_a_b
  /-- `XOR A,C`, 0xA9, R153 -/
  | xor_a_c
  /-- `XOR A,D`, 0xAA, R153 -/
  | xor_a_d
  /-- `XOR A,E`, 0xAB, R153 -/
  | xor_a_e
  /-- `XOR A,H`, 0xAC, R153 -/
  | xor_a_h
  /-- `XOR A,L`, 0xAD, R153 -/
  | xor_a_l
  /-- `XOR A,(HL)`, 0xAE, R154 -/
  | xor_a_atHl
  /-- `XOR A,A`, 0xAF, R153 -/
  | xor_a_a
  /-- `OR A,B`, 0xB0, R156 -/
  | or_a_b
  /-- `OR A,C`, 0xB1, R156 -/
  | or_a_c
  /-- `OR A,D`, 0xB2, R156 -/
  | or_a_d
  /-- `OR A,E`, 0xB3, R156 -/
  | or_a_e
  /-- `OR A,H`, 0xB4, R156 -/
  | or_a_h
  /-- `OR A,L`, 0xB5, R156 -/
  | or_a_l
  /-- `OR A,(HL)`, 0xB6, R157 -/
  | or_a_atHl
  /-- `OR A,A`, 0xB7, R156 -/
  | or_a_a
  /-- `CP A,B`, 0xB8, R159 -/
  | cp_a_b
  /-- `CP A,C`, 0xB9, R159 -/
  | cp_a_c
  /-- `CP A,D`, 0xBA, R159 -/
  | cp_a_d
  /-- `CP A,E`, 0xBB, R159 -/
  | cp_a_e
  /-- `CP A,H`, 0xBC, R159 -/
  | cp_a_h
  /-- `CP A,L`, 0xBD, R159 -/
  | cp_a_l
  /-- `CP A,(HL)`, 0xBE, R160 -/
  | cp_a_atHl
  /-- `CP A,A`, 0xBF, R159 -/
  | cp_a_a
  /-- `RET NZ`, 0xC0, R218 -/
  | ret_nz
  /-- `POP BC`, 0xC1, R128 -/
  | pop_bc
  /-- `PUSH BC`, 0xC5, R127 -/
  | push_bc
  /-- `RST 0x00`, 0xC7, R221 -/
  | rst_00
  /-- `RET Z`, 0xC8, R218 -/
  | ret_z
  /-- `RET`, 0xC9, R217 -/
  | ret
  /-- `PREFIX CB`, 0xCB, R236 -/
  | prefix_cb
  /-- `RST 0x08`, 0xCF, R221 -/
  | rst_08
  /-- `RET NC`, 0xD0, R218 -/
  | ret_nc
  /-- `POP DE`, 0xD1, R128 -/
  | pop_de
  /-- `(unassigned)`, 0xD3, R237 -/
  | unassigned_d3
  /-- `PUSH DE`, 0xD5, R127 -/
  | push_de
  /-- `RST 0x10`, 0xD7, R221 -/
  | rst_10
  /-- `RET C`, 0xD8, R218 -/
  | ret_c
  /-- `RETI`, 0xD9, R219 -/
  | reti
  /-- `(unassigned)`, 0xDB, R237 -/
  | unassigned_db
  /-- `(unassigned)`, 0xDD, R237 -/
  | unassigned_dd
  /-- `RST 0x18`, 0xDF, R221 -/
  | rst_18
  /-- `POP HL`, 0xE1, R128 -/
  | pop_hl
  /-- `LD (C),A`, 0xE2, R114 -/
  | ld_atC_a
  /-- `(unassigned)`, 0xE3, R237 -/
  | unassigned_e3
  /-- `(unassigned)`, 0xE4, R237 -/
  | unassigned_e4
  /-- `PUSH HL`, 0xE5, R127 -/
  | push_hl
  /-- `RST 0x20`, 0xE7, R221 -/
  | rst_20
  /-- `JP HL`, 0xE9, R212 -/
  | jp_hl
  /-- `(unassigned)`, 0xEB, R237 -/
  | unassigned_eb
  /-- `(unassigned)`, 0xEC, R237 -/
  | unassigned_ec
  /-- `(unassigned)`, 0xED, R237 -/
  | unassigned_ed
  /-- `RST 0x28`, 0xEF, R221 -/
  | rst_28
  /-- `POP AF`, 0xF1, R129 -/
  | pop_af
  /-- `LD A,(C)`, 0xF2, R113 -/
  | ld_a_atC
  /-- `DI`, 0xF3, R234 -/
  | di
  /-- `(unassigned)`, 0xF4, R237 -/
  | unassigned_f4
  /-- `PUSH AF`, 0xF5, R127 -/
  | push_af
  /-- `RST 0x30`, 0xF7, R221 -/
  | rst_30
  /-- `LD SP,HL`, 0xF9, R122 -/
  | ld_sp_hl
  /-- `EI`, 0xFB, R235 -/
  | ei
  /-- `(unassigned)`, 0xFC, R237 -/
  | unassigned_fc
  /-- `(unassigned)`, 0xFD, R237 -/
  | unassigned_fd
  /-- `RST 0x38`, 0xFF, R221 -/
  | rst_38
  /-- `RLC B`, CB 0x00, R184 -/
  | rlc_b
  /-- `RLC C`, CB 0x01, R184 -/
  | rlc_c
  /-- `RLC D`, CB 0x02, R184 -/
  | rlc_d
  /-- `RLC E`, CB 0x03, R184 -/
  | rlc_e
  /-- `RLC H`, CB 0x04, R184 -/
  | rlc_h
  /-- `RLC L`, CB 0x05, R184 -/
  | rlc_l
  /-- `RLC (HL)`, CB 0x06, R185 -/
  | rlc_atHl
  /-- `RLC A`, CB 0x07, R184 -/
  | rlc_a
  /-- `RRC B`, CB 0x08, R186 -/
  | rrc_b
  /-- `RRC C`, CB 0x09, R186 -/
  | rrc_c
  /-- `RRC D`, CB 0x0A, R186 -/
  | rrc_d
  /-- `RRC E`, CB 0x0B, R186 -/
  | rrc_e
  /-- `RRC H`, CB 0x0C, R186 -/
  | rrc_h
  /-- `RRC L`, CB 0x0D, R186 -/
  | rrc_l
  /-- `RRC (HL)`, CB 0x0E, R187 -/
  | rrc_atHl
  /-- `RRC A`, CB 0x0F, R186 -/
  | rrc_a
  /-- `RL B`, CB 0x10, R188 -/
  | rl_b
  /-- `RL C`, CB 0x11, R188 -/
  | rl_c
  /-- `RL D`, CB 0x12, R188 -/
  | rl_d
  /-- `RL E`, CB 0x13, R188 -/
  | rl_e
  /-- `RL H`, CB 0x14, R188 -/
  | rl_h
  /-- `RL L`, CB 0x15, R188 -/
  | rl_l
  /-- `RL (HL)`, CB 0x16, R189 -/
  | rl_atHl
  /-- `RL A`, CB 0x17, R188 -/
  | rl_a
  /-- `RR B`, CB 0x18, R190 -/
  | rr_b
  /-- `RR C`, CB 0x19, R190 -/
  | rr_c
  /-- `RR D`, CB 0x1A, R190 -/
  | rr_d
  /-- `RR E`, CB 0x1B, R190 -/
  | rr_e
  /-- `RR H`, CB 0x1C, R190 -/
  | rr_h
  /-- `RR L`, CB 0x1D, R190 -/
  | rr_l
  /-- `RR (HL)`, CB 0x1E, R191 -/
  | rr_atHl
  /-- `RR A`, CB 0x1F, R190 -/
  | rr_a
  /-- `SLA B`, CB 0x20, R192 -/
  | sla_b
  /-- `SLA C`, CB 0x21, R192 -/
  | sla_c
  /-- `SLA D`, CB 0x22, R192 -/
  | sla_d
  /-- `SLA E`, CB 0x23, R192 -/
  | sla_e
  /-- `SLA H`, CB 0x24, R192 -/
  | sla_h
  /-- `SLA L`, CB 0x25, R192 -/
  | sla_l
  /-- `SLA (HL)`, CB 0x26, R193 -/
  | sla_atHl
  /-- `SLA A`, CB 0x27, R192 -/
  | sla_a
  /-- `SRA B`, CB 0x28, R194 -/
  | sra_b
  /-- `SRA C`, CB 0x29, R194 -/
  | sra_c
  /-- `SRA D`, CB 0x2A, R194 -/
  | sra_d
  /-- `SRA E`, CB 0x2B, R194 -/
  | sra_e
  /-- `SRA H`, CB 0x2C, R194 -/
  | sra_h
  /-- `SRA L`, CB 0x2D, R194 -/
  | sra_l
  /-- `SRA (HL)`, CB 0x2E, R195 -/
  | sra_atHl
  /-- `SRA A`, CB 0x2F, R194 -/
  | sra_a
  /-- `SWAP B`, CB 0x30, R196 -/
  | swap_b
  /-- `SWAP C`, CB 0x31, R196 -/
  | swap_c
  /-- `SWAP D`, CB 0x32, R196 -/
  | swap_d
  /-- `SWAP E`, CB 0x33, R196 -/
  | swap_e
  /-- `SWAP H`, CB 0x34, R196 -/
  | swap_h
  /-- `SWAP L`, CB 0x35, R196 -/
  | swap_l
  /-- `SWAP (HL)`, CB 0x36, R197 -/
  | swap_atHl
  /-- `SWAP A`, CB 0x37, R196 -/
  | swap_a
  /-- `SRL B`, CB 0x38, R198 -/
  | srl_b
  /-- `SRL C`, CB 0x39, R198 -/
  | srl_c
  /-- `SRL D`, CB 0x3A, R198 -/
  | srl_d
  /-- `SRL E`, CB 0x3B, R198 -/
  | srl_e
  /-- `SRL H`, CB 0x3C, R198 -/
  | srl_h
  /-- `SRL L`, CB 0x3D, R198 -/
  | srl_l
  /-- `SRL (HL)`, CB 0x3E, R199 -/
  | srl_atHl
  /-- `SRL A`, CB 0x3F, R198 -/
  | srl_a
  /-- `BIT 0,B`, CB 0x40, R200 -/
  | bit_0_b
  /-- `BIT 0,C`, CB 0x41, R200 -/
  | bit_0_c
  /-- `BIT 0,D`, CB 0x42, R200 -/
  | bit_0_d
  /-- `BIT 0,E`, CB 0x43, R200 -/
  | bit_0_e
  /-- `BIT 0,H`, CB 0x44, R200 -/
  | bit_0_h
  /-- `BIT 0,L`, CB 0x45, R200 -/
  | bit_0_l
  /-- `BIT 0,(HL)`, CB 0x46, R201 -/
  | bit_0_atHl
  /-- `BIT 0,A`, CB 0x47, R200 -/
  | bit_0_a
  /-- `BIT 1,B`, CB 0x48, R200 -/
  | bit_1_b
  /-- `BIT 1,C`, CB 0x49, R200 -/
  | bit_1_c
  /-- `BIT 1,D`, CB 0x4A, R200 -/
  | bit_1_d
  /-- `BIT 1,E`, CB 0x4B, R200 -/
  | bit_1_e
  /-- `BIT 1,H`, CB 0x4C, R200 -/
  | bit_1_h
  /-- `BIT 1,L`, CB 0x4D, R200 -/
  | bit_1_l
  /-- `BIT 1,(HL)`, CB 0x4E, R201 -/
  | bit_1_atHl
  /-- `BIT 1,A`, CB 0x4F, R200 -/
  | bit_1_a
  /-- `BIT 2,B`, CB 0x50, R200 -/
  | bit_2_b
  /-- `BIT 2,C`, CB 0x51, R200 -/
  | bit_2_c
  /-- `BIT 2,D`, CB 0x52, R200 -/
  | bit_2_d
  /-- `BIT 2,E`, CB 0x53, R200 -/
  | bit_2_e
  /-- `BIT 2,H`, CB 0x54, R200 -/
  | bit_2_h
  /-- `BIT 2,L`, CB 0x55, R200 -/
  | bit_2_l
  /-- `BIT 2,(HL)`, CB 0x56, R201 -/
  | bit_2_atHl
  /-- `BIT 2,A`, CB 0x57, R200 -/
  | bit_2_a
  /-- `BIT 3,B`, CB 0x58, R200 -/
  | bit_3_b
  /-- `BIT 3,C`, CB 0x59, R200 -/
  | bit_3_c
  /-- `BIT 3,D`, CB 0x5A, R200 -/
  | bit_3_d
  /-- `BIT 3,E`, CB 0x5B, R200 -/
  | bit_3_e
  /-- `BIT 3,H`, CB 0x5C, R200 -/
  | bit_3_h
  /-- `BIT 3,L`, CB 0x5D, R200 -/
  | bit_3_l
  /-- `BIT 3,(HL)`, CB 0x5E, R201 -/
  | bit_3_atHl
  /-- `BIT 3,A`, CB 0x5F, R200 -/
  | bit_3_a
  /-- `BIT 4,B`, CB 0x60, R200 -/
  | bit_4_b
  /-- `BIT 4,C`, CB 0x61, R200 -/
  | bit_4_c
  /-- `BIT 4,D`, CB 0x62, R200 -/
  | bit_4_d
  /-- `BIT 4,E`, CB 0x63, R200 -/
  | bit_4_e
  /-- `BIT 4,H`, CB 0x64, R200 -/
  | bit_4_h
  /-- `BIT 4,L`, CB 0x65, R200 -/
  | bit_4_l
  /-- `BIT 4,(HL)`, CB 0x66, R201 -/
  | bit_4_atHl
  /-- `BIT 4,A`, CB 0x67, R200 -/
  | bit_4_a
  /-- `BIT 5,B`, CB 0x68, R200 -/
  | bit_5_b
  /-- `BIT 5,C`, CB 0x69, R200 -/
  | bit_5_c
  /-- `BIT 5,D`, CB 0x6A, R200 -/
  | bit_5_d
  /-- `BIT 5,E`, CB 0x6B, R200 -/
  | bit_5_e
  /-- `BIT 5,H`, CB 0x6C, R200 -/
  | bit_5_h
  /-- `BIT 5,L`, CB 0x6D, R200 -/
  | bit_5_l
  /-- `BIT 5,(HL)`, CB 0x6E, R201 -/
  | bit_5_atHl
  /-- `BIT 5,A`, CB 0x6F, R200 -/
  | bit_5_a
  /-- `BIT 6,B`, CB 0x70, R200 -/
  | bit_6_b
  /-- `BIT 6,C`, CB 0x71, R200 -/
  | bit_6_c
  /-- `BIT 6,D`, CB 0x72, R200 -/
  | bit_6_d
  /-- `BIT 6,E`, CB 0x73, R200 -/
  | bit_6_e
  /-- `BIT 6,H`, CB 0x74, R200 -/
  | bit_6_h
  /-- `BIT 6,L`, CB 0x75, R200 -/
  | bit_6_l
  /-- `BIT 6,(HL)`, CB 0x76, R201 -/
  | bit_6_atHl
  /-- `BIT 6,A`, CB 0x77, R200 -/
  | bit_6_a
  /-- `BIT 7,B`, CB 0x78, R200 -/
  | bit_7_b
  /-- `BIT 7,C`, CB 0x79, R200 -/
  | bit_7_c
  /-- `BIT 7,D`, CB 0x7A, R200 -/
  | bit_7_d
  /-- `BIT 7,E`, CB 0x7B, R200 -/
  | bit_7_e
  /-- `BIT 7,H`, CB 0x7C, R200 -/
  | bit_7_h
  /-- `BIT 7,L`, CB 0x7D, R200 -/
  | bit_7_l
  /-- `BIT 7,(HL)`, CB 0x7E, R201 -/
  | bit_7_atHl
  /-- `BIT 7,A`, CB 0x7F, R200 -/
  | bit_7_a
  /-- `RES 0,B`, CB 0x80, R202 -/
  | res_0_b
  /-- `RES 0,C`, CB 0x81, R202 -/
  | res_0_c
  /-- `RES 0,D`, CB 0x82, R202 -/
  | res_0_d
  /-- `RES 0,E`, CB 0x83, R202 -/
  | res_0_e
  /-- `RES 0,H`, CB 0x84, R202 -/
  | res_0_h
  /-- `RES 0,L`, CB 0x85, R202 -/
  | res_0_l
  /-- `RES 0,(HL)`, CB 0x86, R203 -/
  | res_0_atHl
  /-- `RES 0,A`, CB 0x87, R202 -/
  | res_0_a
  /-- `RES 1,B`, CB 0x88, R202 -/
  | res_1_b
  /-- `RES 1,C`, CB 0x89, R202 -/
  | res_1_c
  /-- `RES 1,D`, CB 0x8A, R202 -/
  | res_1_d
  /-- `RES 1,E`, CB 0x8B, R202 -/
  | res_1_e
  /-- `RES 1,H`, CB 0x8C, R202 -/
  | res_1_h
  /-- `RES 1,L`, CB 0x8D, R202 -/
  | res_1_l
  /-- `RES 1,(HL)`, CB 0x8E, R203 -/
  | res_1_atHl
  /-- `RES 1,A`, CB 0x8F, R202 -/
  | res_1_a
  /-- `RES 2,B`, CB 0x90, R202 -/
  | res_2_b
  /-- `RES 2,C`, CB 0x91, R202 -/
  | res_2_c
  /-- `RES 2,D`, CB 0x92, R202 -/
  | res_2_d
  /-- `RES 2,E`, CB 0x93, R202 -/
  | res_2_e
  /-- `RES 2,H`, CB 0x94, R202 -/
  | res_2_h
  /-- `RES 2,L`, CB 0x95, R202 -/
  | res_2_l
  /-- `RES 2,(HL)`, CB 0x96, R203 -/
  | res_2_atHl
  /-- `RES 2,A`, CB 0x97, R202 -/
  | res_2_a
  /-- `RES 3,B`, CB 0x98, R202 -/
  | res_3_b
  /-- `RES 3,C`, CB 0x99, R202 -/
  | res_3_c
  /-- `RES 3,D`, CB 0x9A, R202 -/
  | res_3_d
  /-- `RES 3,E`, CB 0x9B, R202 -/
  | res_3_e
  /-- `RES 3,H`, CB 0x9C, R202 -/
  | res_3_h
  /-- `RES 3,L`, CB 0x9D, R202 -/
  | res_3_l
  /-- `RES 3,(HL)`, CB 0x9E, R203 -/
  | res_3_atHl
  /-- `RES 3,A`, CB 0x9F, R202 -/
  | res_3_a
  /-- `RES 4,B`, CB 0xA0, R202 -/
  | res_4_b
  /-- `RES 4,C`, CB 0xA1, R202 -/
  | res_4_c
  /-- `RES 4,D`, CB 0xA2, R202 -/
  | res_4_d
  /-- `RES 4,E`, CB 0xA3, R202 -/
  | res_4_e
  /-- `RES 4,H`, CB 0xA4, R202 -/
  | res_4_h
  /-- `RES 4,L`, CB 0xA5, R202 -/
  | res_4_l
  /-- `RES 4,(HL)`, CB 0xA6, R203 -/
  | res_4_atHl
  /-- `RES 4,A`, CB 0xA7, R202 -/
  | res_4_a
  /-- `RES 5,B`, CB 0xA8, R202 -/
  | res_5_b
  /-- `RES 5,C`, CB 0xA9, R202 -/
  | res_5_c
  /-- `RES 5,D`, CB 0xAA, R202 -/
  | res_5_d
  /-- `RES 5,E`, CB 0xAB, R202 -/
  | res_5_e
  /-- `RES 5,H`, CB 0xAC, R202 -/
  | res_5_h
  /-- `RES 5,L`, CB 0xAD, R202 -/
  | res_5_l
  /-- `RES 5,(HL)`, CB 0xAE, R203 -/
  | res_5_atHl
  /-- `RES 5,A`, CB 0xAF, R202 -/
  | res_5_a
  /-- `RES 6,B`, CB 0xB0, R202 -/
  | res_6_b
  /-- `RES 6,C`, CB 0xB1, R202 -/
  | res_6_c
  /-- `RES 6,D`, CB 0xB2, R202 -/
  | res_6_d
  /-- `RES 6,E`, CB 0xB3, R202 -/
  | res_6_e
  /-- `RES 6,H`, CB 0xB4, R202 -/
  | res_6_h
  /-- `RES 6,L`, CB 0xB5, R202 -/
  | res_6_l
  /-- `RES 6,(HL)`, CB 0xB6, R203 -/
  | res_6_atHl
  /-- `RES 6,A`, CB 0xB7, R202 -/
  | res_6_a
  /-- `RES 7,B`, CB 0xB8, R202 -/
  | res_7_b
  /-- `RES 7,C`, CB 0xB9, R202 -/
  | res_7_c
  /-- `RES 7,D`, CB 0xBA, R202 -/
  | res_7_d
  /-- `RES 7,E`, CB 0xBB, R202 -/
  | res_7_e
  /-- `RES 7,H`, CB 0xBC, R202 -/
  | res_7_h
  /-- `RES 7,L`, CB 0xBD, R202 -/
  | res_7_l
  /-- `RES 7,(HL)`, CB 0xBE, R203 -/
  | res_7_atHl
  /-- `RES 7,A`, CB 0xBF, R202 -/
  | res_7_a
  /-- `SET 0,B`, CB 0xC0, R204 -/
  | set_0_b
  /-- `SET 0,C`, CB 0xC1, R204 -/
  | set_0_c
  /-- `SET 0,D`, CB 0xC2, R204 -/
  | set_0_d
  /-- `SET 0,E`, CB 0xC3, R204 -/
  | set_0_e
  /-- `SET 0,H`, CB 0xC4, R204 -/
  | set_0_h
  /-- `SET 0,L`, CB 0xC5, R204 -/
  | set_0_l
  /-- `SET 0,(HL)`, CB 0xC6, R205 -/
  | set_0_atHl
  /-- `SET 0,A`, CB 0xC7, R204 -/
  | set_0_a
  /-- `SET 1,B`, CB 0xC8, R204 -/
  | set_1_b
  /-- `SET 1,C`, CB 0xC9, R204 -/
  | set_1_c
  /-- `SET 1,D`, CB 0xCA, R204 -/
  | set_1_d
  /-- `SET 1,E`, CB 0xCB, R204 -/
  | set_1_e
  /-- `SET 1,H`, CB 0xCC, R204 -/
  | set_1_h
  /-- `SET 1,L`, CB 0xCD, R204 -/
  | set_1_l
  /-- `SET 1,(HL)`, CB 0xCE, R205 -/
  | set_1_atHl
  /-- `SET 1,A`, CB 0xCF, R204 -/
  | set_1_a
  /-- `SET 2,B`, CB 0xD0, R204 -/
  | set_2_b
  /-- `SET 2,C`, CB 0xD1, R204 -/
  | set_2_c
  /-- `SET 2,D`, CB 0xD2, R204 -/
  | set_2_d
  /-- `SET 2,E`, CB 0xD3, R204 -/
  | set_2_e
  /-- `SET 2,H`, CB 0xD4, R204 -/
  | set_2_h
  /-- `SET 2,L`, CB 0xD5, R204 -/
  | set_2_l
  /-- `SET 2,(HL)`, CB 0xD6, R205 -/
  | set_2_atHl
  /-- `SET 2,A`, CB 0xD7, R204 -/
  | set_2_a
  /-- `SET 3,B`, CB 0xD8, R204 -/
  | set_3_b
  /-- `SET 3,C`, CB 0xD9, R204 -/
  | set_3_c
  /-- `SET 3,D`, CB 0xDA, R204 -/
  | set_3_d
  /-- `SET 3,E`, CB 0xDB, R204 -/
  | set_3_e
  /-- `SET 3,H`, CB 0xDC, R204 -/
  | set_3_h
  /-- `SET 3,L`, CB 0xDD, R204 -/
  | set_3_l
  /-- `SET 3,(HL)`, CB 0xDE, R205 -/
  | set_3_atHl
  /-- `SET 3,A`, CB 0xDF, R204 -/
  | set_3_a
  /-- `SET 4,B`, CB 0xE0, R204 -/
  | set_4_b
  /-- `SET 4,C`, CB 0xE1, R204 -/
  | set_4_c
  /-- `SET 4,D`, CB 0xE2, R204 -/
  | set_4_d
  /-- `SET 4,E`, CB 0xE3, R204 -/
  | set_4_e
  /-- `SET 4,H`, CB 0xE4, R204 -/
  | set_4_h
  /-- `SET 4,L`, CB 0xE5, R204 -/
  | set_4_l
  /-- `SET 4,(HL)`, CB 0xE6, R205 -/
  | set_4_atHl
  /-- `SET 4,A`, CB 0xE7, R204 -/
  | set_4_a
  /-- `SET 5,B`, CB 0xE8, R204 -/
  | set_5_b
  /-- `SET 5,C`, CB 0xE9, R204 -/
  | set_5_c
  /-- `SET 5,D`, CB 0xEA, R204 -/
  | set_5_d
  /-- `SET 5,E`, CB 0xEB, R204 -/
  | set_5_e
  /-- `SET 5,H`, CB 0xEC, R204 -/
  | set_5_h
  /-- `SET 5,L`, CB 0xED, R204 -/
  | set_5_l
  /-- `SET 5,(HL)`, CB 0xEE, R205 -/
  | set_5_atHl
  /-- `SET 5,A`, CB 0xEF, R204 -/
  | set_5_a
  /-- `SET 6,B`, CB 0xF0, R204 -/
  | set_6_b
  /-- `SET 6,C`, CB 0xF1, R204 -/
  | set_6_c
  /-- `SET 6,D`, CB 0xF2, R204 -/
  | set_6_d
  /-- `SET 6,E`, CB 0xF3, R204 -/
  | set_6_e
  /-- `SET 6,H`, CB 0xF4, R204 -/
  | set_6_h
  /-- `SET 6,L`, CB 0xF5, R204 -/
  | set_6_l
  /-- `SET 6,(HL)`, CB 0xF6, R205 -/
  | set_6_atHl
  /-- `SET 6,A`, CB 0xF7, R204 -/
  | set_6_a
  /-- `SET 7,B`, CB 0xF8, R204 -/
  | set_7_b
  /-- `SET 7,C`, CB 0xF9, R204 -/
  | set_7_c
  /-- `SET 7,D`, CB 0xFA, R204 -/
  | set_7_d
  /-- `SET 7,E`, CB 0xFB, R204 -/
  | set_7_e
  /-- `SET 7,H`, CB 0xFC, R204 -/
  | set_7_h
  /-- `SET 7,L`, CB 0xFD, R204 -/
  | set_7_l
  /-- `SET 7,(HL)`, CB 0xFE, R205 -/
  | set_7_atHl
  /-- `SET 7,A`, CB 0xFF, R204 -/
  | set_7_a
  deriving DecidableEq, Repr

/-! The instructions of one form, by their operand fields. -/

/-- `LD r,r'` (40_load8.md R100). -/
def Instr.ldRegReg : Reg8 → Reg8 → Instr
  | .b, .b => .ld_b_b
  | .b, .c => .ld_b_c
  | .b, .d => .ld_b_d
  | .b, .e => .ld_b_e
  | .b, .h => .ld_b_h
  | .b, .l => .ld_b_l
  | .b, .a => .ld_b_a
  | .c, .b => .ld_c_b
  | .c, .c => .ld_c_c
  | .c, .d => .ld_c_d
  | .c, .e => .ld_c_e
  | .c, .h => .ld_c_h
  | .c, .l => .ld_c_l
  | .c, .a => .ld_c_a
  | .d, .b => .ld_d_b
  | .d, .c => .ld_d_c
  | .d, .d => .ld_d_d
  | .d, .e => .ld_d_e
  | .d, .h => .ld_d_h
  | .d, .l => .ld_d_l
  | .d, .a => .ld_d_a
  | .e, .b => .ld_e_b
  | .e, .c => .ld_e_c
  | .e, .d => .ld_e_d
  | .e, .e => .ld_e_e
  | .e, .h => .ld_e_h
  | .e, .l => .ld_e_l
  | .e, .a => .ld_e_a
  | .h, .b => .ld_h_b
  | .h, .c => .ld_h_c
  | .h, .d => .ld_h_d
  | .h, .e => .ld_h_e
  | .h, .h => .ld_h_h
  | .h, .l => .ld_h_l
  | .h, .a => .ld_h_a
  | .l, .b => .ld_l_b
  | .l, .c => .ld_l_c
  | .l, .d => .ld_l_d
  | .l, .e => .ld_l_e
  | .l, .h => .ld_l_h
  | .l, .l => .ld_l_l
  | .l, .a => .ld_l_a
  | .a, .b => .ld_a_b
  | .a, .c => .ld_a_c
  | .a, .d => .ld_a_d
  | .a, .e => .ld_a_e
  | .a, .h => .ld_a_h
  | .a, .l => .ld_a_l
  | .a, .a => .ld_a_a

/-- `LD r,d8` (R101). -/
def Instr.ldRegImm : Reg8 → Byte → Instr
  | .b, n => .ld_b_d8 n
  | .c, n => .ld_c_d8 n
  | .d, n => .ld_d_d8 n
  | .e, n => .ld_e_d8 n
  | .h, n => .ld_h_d8 n
  | .l, n => .ld_l_d8 n
  | .a, n => .ld_a_d8 n

/-- `LD r,(HL)` (R102). -/
def Instr.ldRegHl : Reg8 → Instr
  | .b => .ld_b_atHl
  | .c => .ld_c_atHl
  | .d => .ld_d_atHl
  | .e => .ld_e_atHl
  | .h => .ld_h_atHl
  | .l => .ld_l_atHl
  | .a => .ld_a_atHl

/-- `LD (HL),r` (R103). -/
def Instr.ldHlReg : Reg8 → Instr
  | .b => .ld_atHl_b
  | .c => .ld_atHl_c
  | .d => .ld_atHl_d
  | .e => .ld_atHl_e
  | .h => .ld_atHl_h
  | .l => .ld_atHl_l
  | .a => .ld_atHl_a

/-- `LD rr,d16` (41_load16.md R120). -/
def Instr.ldPairImm : Pair → Word → Instr
  | .bc, nn => .ld_bc_d16 nn
  | .de, nn => .ld_de_d16 nn
  | .hl, nn => .ld_hl_d16 nn
  | .sp, nn => .ld_sp_d16 nn

/-- `PUSH rr` (R127). -/
def Instr.pushPair : StackPair → Instr
  | .bc => .push_bc
  | .de => .push_de
  | .hl => .push_hl
  | .af => .push_af

/-- `POP rr` and `POP AF` (R128, R129). -/
def Instr.popPair : StackPair → Instr
  | .bc => .pop_bc
  | .de => .pop_de
  | .hl => .pop_hl
  | .af => .pop_af

/-- an ALU operation on `A,r` (42_alu8.md R138 to R159). -/
def Instr.aluReg : AluOp → Reg8 → Instr
  | .add, .b => .add_a_b
  | .add, .c => .add_a_c
  | .add, .d => .add_a_d
  | .add, .e => .add_a_e
  | .add, .h => .add_a_h
  | .add, .l => .add_a_l
  | .add, .a => .add_a_a
  | .adc, .b => .adc_a_b
  | .adc, .c => .adc_a_c
  | .adc, .d => .adc_a_d
  | .adc, .e => .adc_a_e
  | .adc, .h => .adc_a_h
  | .adc, .l => .adc_a_l
  | .adc, .a => .adc_a_a
  | .sub, .b => .sub_a_b
  | .sub, .c => .sub_a_c
  | .sub, .d => .sub_a_d
  | .sub, .e => .sub_a_e
  | .sub, .h => .sub_a_h
  | .sub, .l => .sub_a_l
  | .sub, .a => .sub_a_a
  | .sbc, .b => .sbc_a_b
  | .sbc, .c => .sbc_a_c
  | .sbc, .d => .sbc_a_d
  | .sbc, .e => .sbc_a_e
  | .sbc, .h => .sbc_a_h
  | .sbc, .l => .sbc_a_l
  | .sbc, .a => .sbc_a_a
  | .and, .b => .and_a_b
  | .and, .c => .and_a_c
  | .and, .d => .and_a_d
  | .and, .e => .and_a_e
  | .and, .h => .and_a_h
  | .and, .l => .and_a_l
  | .and, .a => .and_a_a
  | .xor, .b => .xor_a_b
  | .xor, .c => .xor_a_c
  | .xor, .d => .xor_a_d
  | .xor, .e => .xor_a_e
  | .xor, .h => .xor_a_h
  | .xor, .l => .xor_a_l
  | .xor, .a => .xor_a_a
  | .or, .b => .or_a_b
  | .or, .c => .or_a_c
  | .or, .d => .or_a_d
  | .or, .e => .or_a_e
  | .or, .h => .or_a_h
  | .or, .l => .or_a_l
  | .or, .a => .or_a_a
  | .cp, .b => .cp_a_b
  | .cp, .c => .cp_a_c
  | .cp, .d => .cp_a_d
  | .cp, .e => .cp_a_e
  | .cp, .h => .cp_a_h
  | .cp, .l => .cp_a_l
  | .cp, .a => .cp_a_a

/-- an ALU operation on `A,(HL)` (R139 to R160). -/
def Instr.aluHl : AluOp → Instr
  | .add => .add_a_atHl
  | .adc => .adc_a_atHl
  | .sub => .sub_a_atHl
  | .sbc => .sbc_a_atHl
  | .and => .and_a_atHl
  | .xor => .xor_a_atHl
  | .or => .or_a_atHl
  | .cp => .cp_a_atHl

/-- an ALU operation on `A,d8` (R140 to R161). -/
def Instr.aluImm : AluOp → Byte → Instr
  | .add, n => .add_a_d8 n
  | .adc, n => .adc_a_d8 n
  | .sub, n => .sub_a_d8 n
  | .sbc, n => .sbc_a_d8 n
  | .and, n => .and_a_d8 n
  | .xor, n => .xor_a_d8 n
  | .or, n => .or_a_d8 n
  | .cp, n => .cp_a_d8 n

/-- `INC r` (R162). -/
def Instr.incReg : Reg8 → Instr
  | .b => .inc_b
  | .c => .inc_c
  | .d => .inc_d
  | .e => .inc_e
  | .h => .inc_h
  | .l => .inc_l
  | .a => .inc_a

/-- `DEC r` (R164). -/
def Instr.decReg : Reg8 → Instr
  | .b => .dec_b
  | .c => .dec_c
  | .d => .dec_d
  | .e => .dec_e
  | .h => .dec_h
  | .l => .dec_l
  | .a => .dec_a

/-- `ADD HL,rr` (43_alu16.md R170). -/
def Instr.addHlPair : Pair → Instr
  | .bc => .add_hl_bc
  | .de => .add_hl_de
  | .hl => .add_hl_hl
  | .sp => .add_hl_sp

/-- `INC rr` (R171). -/
def Instr.incPair : Pair → Instr
  | .bc => .inc_bc
  | .de => .inc_de
  | .hl => .inc_hl
  | .sp => .inc_sp

/-- `DEC rr` (R172). -/
def Instr.decPair : Pair → Instr
  | .bc => .dec_bc
  | .de => .dec_de
  | .hl => .dec_hl
  | .sp => .dec_sp

/-- a rotate or shift of a register (44_rotate_shift_bit.md R184 to R198). -/
def Instr.rotReg : RotOp → Reg8 → Instr
  | .rlc, .b => .rlc_b
  | .rlc, .c => .rlc_c
  | .rlc, .d => .rlc_d
  | .rlc, .e => .rlc_e
  | .rlc, .h => .rlc_h
  | .rlc, .l => .rlc_l
  | .rlc, .a => .rlc_a
  | .rrc, .b => .rrc_b
  | .rrc, .c => .rrc_c
  | .rrc, .d => .rrc_d
  | .rrc, .e => .rrc_e
  | .rrc, .h => .rrc_h
  | .rrc, .l => .rrc_l
  | .rrc, .a => .rrc_a
  | .rl, .b => .rl_b
  | .rl, .c => .rl_c
  | .rl, .d => .rl_d
  | .rl, .e => .rl_e
  | .rl, .h => .rl_h
  | .rl, .l => .rl_l
  | .rl, .a => .rl_a
  | .rr, .b => .rr_b
  | .rr, .c => .rr_c
  | .rr, .d => .rr_d
  | .rr, .e => .rr_e
  | .rr, .h => .rr_h
  | .rr, .l => .rr_l
  | .rr, .a => .rr_a
  | .sla, .b => .sla_b
  | .sla, .c => .sla_c
  | .sla, .d => .sla_d
  | .sla, .e => .sla_e
  | .sla, .h => .sla_h
  | .sla, .l => .sla_l
  | .sla, .a => .sla_a
  | .sra, .b => .sra_b
  | .sra, .c => .sra_c
  | .sra, .d => .sra_d
  | .sra, .e => .sra_e
  | .sra, .h => .sra_h
  | .sra, .l => .sra_l
  | .sra, .a => .sra_a
  | .swap, .b => .swap_b
  | .swap, .c => .swap_c
  | .swap, .d => .swap_d
  | .swap, .e => .swap_e
  | .swap, .h => .swap_h
  | .swap, .l => .swap_l
  | .swap, .a => .swap_a
  | .srl, .b => .srl_b
  | .srl, .c => .srl_c
  | .srl, .d => .srl_d
  | .srl, .e => .srl_e
  | .srl, .h => .srl_h
  | .srl, .l => .srl_l
  | .srl, .a => .srl_a

/-- a rotate or shift of the byte at HL (R185 to R199). -/
def Instr.rotHl : RotOp → Instr
  | .rlc => .rlc_atHl
  | .rrc => .rrc_atHl
  | .rl => .rl_atHl
  | .rr => .rr_atHl
  | .sla => .sla_atHl
  | .sra => .sra_atHl
  | .swap => .swap_atHl
  | .srl => .srl_atHl

/-- `BIT b,r` (R200). -/
def Instr.bitReg : Fin 8 → Reg8 → Instr
  | 0, .b => .bit_0_b
  | 0, .c => .bit_0_c
  | 0, .d => .bit_0_d
  | 0, .e => .bit_0_e
  | 0, .h => .bit_0_h
  | 0, .l => .bit_0_l
  | 0, .a => .bit_0_a
  | 1, .b => .bit_1_b
  | 1, .c => .bit_1_c
  | 1, .d => .bit_1_d
  | 1, .e => .bit_1_e
  | 1, .h => .bit_1_h
  | 1, .l => .bit_1_l
  | 1, .a => .bit_1_a
  | 2, .b => .bit_2_b
  | 2, .c => .bit_2_c
  | 2, .d => .bit_2_d
  | 2, .e => .bit_2_e
  | 2, .h => .bit_2_h
  | 2, .l => .bit_2_l
  | 2, .a => .bit_2_a
  | 3, .b => .bit_3_b
  | 3, .c => .bit_3_c
  | 3, .d => .bit_3_d
  | 3, .e => .bit_3_e
  | 3, .h => .bit_3_h
  | 3, .l => .bit_3_l
  | 3, .a => .bit_3_a
  | 4, .b => .bit_4_b
  | 4, .c => .bit_4_c
  | 4, .d => .bit_4_d
  | 4, .e => .bit_4_e
  | 4, .h => .bit_4_h
  | 4, .l => .bit_4_l
  | 4, .a => .bit_4_a
  | 5, .b => .bit_5_b
  | 5, .c => .bit_5_c
  | 5, .d => .bit_5_d
  | 5, .e => .bit_5_e
  | 5, .h => .bit_5_h
  | 5, .l => .bit_5_l
  | 5, .a => .bit_5_a
  | 6, .b => .bit_6_b
  | 6, .c => .bit_6_c
  | 6, .d => .bit_6_d
  | 6, .e => .bit_6_e
  | 6, .h => .bit_6_h
  | 6, .l => .bit_6_l
  | 6, .a => .bit_6_a
  | 7, .b => .bit_7_b
  | 7, .c => .bit_7_c
  | 7, .d => .bit_7_d
  | 7, .e => .bit_7_e
  | 7, .h => .bit_7_h
  | 7, .l => .bit_7_l
  | 7, .a => .bit_7_a

/-- `BIT b,(HL)` (R201). -/
def Instr.bitHl : Fin 8 → Instr
  | 0 => .bit_0_atHl
  | 1 => .bit_1_atHl
  | 2 => .bit_2_atHl
  | 3 => .bit_3_atHl
  | 4 => .bit_4_atHl
  | 5 => .bit_5_atHl
  | 6 => .bit_6_atHl
  | 7 => .bit_7_atHl

/-- `RES b,r` (R202). -/
def Instr.resReg : Fin 8 → Reg8 → Instr
  | 0, .b => .res_0_b
  | 0, .c => .res_0_c
  | 0, .d => .res_0_d
  | 0, .e => .res_0_e
  | 0, .h => .res_0_h
  | 0, .l => .res_0_l
  | 0, .a => .res_0_a
  | 1, .b => .res_1_b
  | 1, .c => .res_1_c
  | 1, .d => .res_1_d
  | 1, .e => .res_1_e
  | 1, .h => .res_1_h
  | 1, .l => .res_1_l
  | 1, .a => .res_1_a
  | 2, .b => .res_2_b
  | 2, .c => .res_2_c
  | 2, .d => .res_2_d
  | 2, .e => .res_2_e
  | 2, .h => .res_2_h
  | 2, .l => .res_2_l
  | 2, .a => .res_2_a
  | 3, .b => .res_3_b
  | 3, .c => .res_3_c
  | 3, .d => .res_3_d
  | 3, .e => .res_3_e
  | 3, .h => .res_3_h
  | 3, .l => .res_3_l
  | 3, .a => .res_3_a
  | 4, .b => .res_4_b
  | 4, .c => .res_4_c
  | 4, .d => .res_4_d
  | 4, .e => .res_4_e
  | 4, .h => .res_4_h
  | 4, .l => .res_4_l
  | 4, .a => .res_4_a
  | 5, .b => .res_5_b
  | 5, .c => .res_5_c
  | 5, .d => .res_5_d
  | 5, .e => .res_5_e
  | 5, .h => .res_5_h
  | 5, .l => .res_5_l
  | 5, .a => .res_5_a
  | 6, .b => .res_6_b
  | 6, .c => .res_6_c
  | 6, .d => .res_6_d
  | 6, .e => .res_6_e
  | 6, .h => .res_6_h
  | 6, .l => .res_6_l
  | 6, .a => .res_6_a
  | 7, .b => .res_7_b
  | 7, .c => .res_7_c
  | 7, .d => .res_7_d
  | 7, .e => .res_7_e
  | 7, .h => .res_7_h
  | 7, .l => .res_7_l
  | 7, .a => .res_7_a

/-- `RES b,(HL)` (R203). -/
def Instr.resHl : Fin 8 → Instr
  | 0 => .res_0_atHl
  | 1 => .res_1_atHl
  | 2 => .res_2_atHl
  | 3 => .res_3_atHl
  | 4 => .res_4_atHl
  | 5 => .res_5_atHl
  | 6 => .res_6_atHl
  | 7 => .res_7_atHl

/-- `SET b,r` (R204). -/
def Instr.setBitReg : Fin 8 → Reg8 → Instr
  | 0, .b => .set_0_b
  | 0, .c => .set_0_c
  | 0, .d => .set_0_d
  | 0, .e => .set_0_e
  | 0, .h => .set_0_h
  | 0, .l => .set_0_l
  | 0, .a => .set_0_a
  | 1, .b => .set_1_b
  | 1, .c => .set_1_c
  | 1, .d => .set_1_d
  | 1, .e => .set_1_e
  | 1, .h => .set_1_h
  | 1, .l => .set_1_l
  | 1, .a => .set_1_a
  | 2, .b => .set_2_b
  | 2, .c => .set_2_c
  | 2, .d => .set_2_d
  | 2, .e => .set_2_e
  | 2, .h => .set_2_h
  | 2, .l => .set_2_l
  | 2, .a => .set_2_a
  | 3, .b => .set_3_b
  | 3, .c => .set_3_c
  | 3, .d => .set_3_d
  | 3, .e => .set_3_e
  | 3, .h => .set_3_h
  | 3, .l => .set_3_l
  | 3, .a => .set_3_a
  | 4, .b => .set_4_b
  | 4, .c => .set_4_c
  | 4, .d => .set_4_d
  | 4, .e => .set_4_e
  | 4, .h => .set_4_h
  | 4, .l => .set_4_l
  | 4, .a => .set_4_a
  | 5, .b => .set_5_b
  | 5, .c => .set_5_c
  | 5, .d => .set_5_d
  | 5, .e => .set_5_e
  | 5, .h => .set_5_h
  | 5, .l => .set_5_l
  | 5, .a => .set_5_a
  | 6, .b => .set_6_b
  | 6, .c => .set_6_c
  | 6, .d => .set_6_d
  | 6, .e => .set_6_e
  | 6, .h => .set_6_h
  | 6, .l => .set_6_l
  | 6, .a => .set_6_a
  | 7, .b => .set_7_b
  | 7, .c => .set_7_c
  | 7, .d => .set_7_d
  | 7, .e => .set_7_e
  | 7, .h => .set_7_h
  | 7, .l => .set_7_l
  | 7, .a => .set_7_a

/-- `SET b,(HL)` (R205). -/
def Instr.setBitHl : Fin 8 → Instr
  | 0 => .set_0_atHl
  | 1 => .set_1_atHl
  | 2 => .set_2_atHl
  | 3 => .set_3_atHl
  | 4 => .set_4_atHl
  | 5 => .set_5_atHl
  | 6 => .set_6_atHl
  | 7 => .set_7_atHl

/-- `JP cc,a16` (45_control.md R211). -/
def Instr.jpCc : Cond → Word → Instr
  | .nz, nn => .jp_nz_a16 nn
  | .z, nn => .jp_z_a16 nn
  | .nc, nn => .jp_nc_a16 nn
  | .c, nn => .jp_c_a16 nn

/-- `JR cc,e` (R214). -/
def Instr.jrCc : Cond → Byte → Instr
  | .nz, e => .jr_nz_e e
  | .z, e => .jr_z_e e
  | .nc, e => .jr_nc_e e
  | .c, e => .jr_c_e e

/-- `CALL cc,a16` (R216). -/
def Instr.callCc : Cond → Word → Instr
  | .nz, nn => .call_nz_a16 nn
  | .z, nn => .call_z_a16 nn
  | .nc, nn => .call_nc_a16 nn
  | .c, nn => .call_c_a16 nn

/-- `RET cc` (R218). -/
def Instr.retCc : Cond → Instr
  | .nz => .ret_nz
  | .z => .ret_z
  | .nc => .ret_nc
  | .c => .ret_c

/-- `RST n`, target 8 * y (R221). -/
def Instr.rst : Fin 8 → Instr
  | 0 => .rst_00
  | 1 => .rst_08
  | 2 => .rst_10
  | 3 => .rst_18
  | 4 => .rst_20
  | 5 => .rst_28
  | 6 => .rst_30
  | 7 => .rst_38

/-- an unassigned opcode (46_misc_system.md R237). -/
def Instr.unassigned : Unassigned → Instr
  | .xd3 => .unassigned_d3
  | .xdb => .unassigned_db
  | .xdd => .unassigned_dd
  | .xe3 => .unassigned_e3
  | .xe4 => .unassigned_e4
  | .xeb => .unassigned_eb
  | .xec => .unassigned_ec
  | .xed => .unassigned_ed
  | .xf4 => .unassigned_f4
  | .xfc => .unassigned_fc
  | .xfd => .unassigned_fd

/-- The opcode byte (R78). -/
def Unassigned.byte : Unassigned → Byte
  | .xd3 => 0xD3
  | .xdb => 0xDB
  | .xdd => 0xDD
  | .xe3 => 0xE3
  | .xe4 => 0xE4
  | .xeb => 0xEB
  | .xec => 0xEC
  | .xed => 0xED
  | .xf4 => 0xF4
  | .xfc => 0xFC
  | .xfd => 0xFD

end Sys2Proof
end

