-- ==== Sys2Proof/WellFormed.lean ====
section
/-! DEFINITION. The check on instructions: an instruction is well formed when its opcode has a handler
(30_encoding.md R78). The operand bytes need no check: "every value 0x00 to 0xFF is loaded as is" (40_load8.md R101) and
"any value is accepted and skipped" (30_encoding.md R79). -/

namespace Sys2Proof

/-- False of the eleven unassigned opcodes, true of every other instruction. -/
def Instr.wf : Instr → Bool
  | .unassigned_d3 => false
  | .unassigned_db => false
  | .unassigned_dd => false
  | .unassigned_e3 => false
  | .unassigned_e4 => false
  | .unassigned_eb => false
  | .unassigned_ec => false
  | .unassigned_ed => false
  | .unassigned_f4 => false
  | .unassigned_fc => false
  | .unassigned_fd => false
  | _ => true

end Sys2Proof
end

