-- ==== Sys2Proof/Decode.lean ====
section
/-! DEFINITION. The decoder, from the opcode grids of 30_encoding.md R75 and R76, and the encoder, from the encodings
of spec/opcode_table.json. -/

namespace Sys2Proof

/-- An entry of an opcode table by its format (30_encoding.md R71): the instruction, given its operand bytes. -/
inductive Entry where
  /-- I1 and CB: the opcode byte alone -/
  | one (i : Instr)
  /-- I2 and I2e: one operand byte -/
  | two (f : Byte → Instr)
  /-- I3: two operand bytes, the low one first -/
  | three (f : Word → Instr)

/-- The length in bytes (R70). -/
def Entry.length : Entry → Nat
  | .one _ => 1
  | .two _ => 2
  | .three _ => 3

/-- `imm16`: "the byte after the opcode is the low byte" (R74). -/
def imm16 (low high : Byte) : Word := high ++ low

/-- Row 0x0 of the main table (R75), column 0 first. -/
def mainRow0 : Vector Entry 16 :=
  #v[.one .nop, .three .ld_bc_d16, .one .ld_atBc_a, .one .inc_bc, .one .inc_b, .one .dec_b, .two .ld_b_d8,
    .one .rlca, .three .ld_atA16_sp, .one .add_hl_bc, .one .ld_a_atBc, .one .dec_bc, .one .inc_c, .one .dec_c,
    .two .ld_c_d8, .one .rrca]

/-- Row 0x1 of the main table (R75), column 0 first. -/
def mainRow1 : Vector Entry 16 :=
  #v[.two .stop, .three .ld_de_d16, .one .ld_atDe_a, .one .inc_de, .one .inc_d, .one .dec_d, .two .ld_d_d8,
    .one .rla, .two .jr_e, .one .add_hl_de, .one .ld_a_atDe, .one .dec_de, .one .inc_e, .one .dec_e, .two .ld_e_d8,
    .one .rra]

/-- Row 0x2 of the main table (R75), column 0 first. -/
def mainRow2 : Vector Entry 16 :=
  #v[.two .jr_nz_e, .three .ld_hl_d16, .one .ld_atHlInc_a, .one .inc_hl, .one .inc_h, .one .dec_h, .two .ld_h_d8,
    .one .daa, .two .jr_z_e, .one .add_hl_hl, .one .ld_a_atHlInc, .one .dec_hl, .one .inc_l, .one .dec_l,
    .two .ld_l_d8, .one .cpl]

/-- Row 0x3 of the main table (R75), column 0 first. -/
def mainRow3 : Vector Entry 16 :=
  #v[.two .jr_nc_e, .three .ld_sp_d16, .one .ld_atHlDec_a, .one .inc_sp, .one .inc_atHl, .one .dec_atHl,
    .two .ld_atHl_d8, .one .scf, .two .jr_c_e, .one .add_hl_sp, .one .ld_a_atHlDec, .one .dec_sp, .one .inc_a,
    .one .dec_a, .two .ld_a_d8, .one .ccf]

/-- Row 0x4 of the main table (R75), column 0 first. -/
def mainRow4 : Vector Entry 16 :=
  #v[.one .ld_b_b, .one .ld_b_c, .one .ld_b_d, .one .ld_b_e, .one .ld_b_h, .one .ld_b_l, .one .ld_b_atHl,
    .one .ld_b_a, .one .ld_c_b, .one .ld_c_c, .one .ld_c_d, .one .ld_c_e, .one .ld_c_h, .one .ld_c_l,
    .one .ld_c_atHl, .one .ld_c_a]

/-- Row 0x5 of the main table (R75), column 0 first. -/
def mainRow5 : Vector Entry 16 :=
  #v[.one .ld_d_b, .one .ld_d_c, .one .ld_d_d, .one .ld_d_e, .one .ld_d_h, .one .ld_d_l, .one .ld_d_atHl,
    .one .ld_d_a, .one .ld_e_b, .one .ld_e_c, .one .ld_e_d, .one .ld_e_e, .one .ld_e_h, .one .ld_e_l,
    .one .ld_e_atHl, .one .ld_e_a]

/-- Row 0x6 of the main table (R75), column 0 first. -/
def mainRow6 : Vector Entry 16 :=
  #v[.one .ld_h_b, .one .ld_h_c, .one .ld_h_d, .one .ld_h_e, .one .ld_h_h, .one .ld_h_l, .one .ld_h_atHl,
    .one .ld_h_a, .one .ld_l_b, .one .ld_l_c, .one .ld_l_d, .one .ld_l_e, .one .ld_l_h, .one .ld_l_l,
    .one .ld_l_atHl, .one .ld_l_a]

/-- Row 0x7 of the main table (R75), column 0 first. -/
def mainRow7 : Vector Entry 16 :=
  #v[.one .ld_atHl_b, .one .ld_atHl_c, .one .ld_atHl_d, .one .ld_atHl_e, .one .ld_atHl_h, .one .ld_atHl_l,
    .one .halt, .one .ld_atHl_a, .one .ld_a_b, .one .ld_a_c, .one .ld_a_d, .one .ld_a_e, .one .ld_a_h, .one .ld_a_l,
    .one .ld_a_atHl, .one .ld_a_a]

/-- Row 0x8 of the main table (R75), column 0 first. -/
def mainRow8 : Vector Entry 16 :=
  #v[.one .add_a_b, .one .add_a_c, .one .add_a_d, .one .add_a_e, .one .add_a_h, .one .add_a_l, .one .add_a_atHl,
    .one .add_a_a, .one .adc_a_b, .one .adc_a_c, .one .adc_a_d, .one .adc_a_e, .one .adc_a_h, .one .adc_a_l,
    .one .adc_a_atHl, .one .adc_a_a]

/-- Row 0x9 of the main table (R75), column 0 first. -/
def mainRow9 : Vector Entry 16 :=
  #v[.one .sub_a_b, .one .sub_a_c, .one .sub_a_d, .one .sub_a_e, .one .sub_a_h, .one .sub_a_l, .one .sub_a_atHl,
    .one .sub_a_a, .one .sbc_a_b, .one .sbc_a_c, .one .sbc_a_d, .one .sbc_a_e, .one .sbc_a_h, .one .sbc_a_l,
    .one .sbc_a_atHl, .one .sbc_a_a]

/-- Row 0xA of the main table (R75), column 0 first. -/
def mainRowA : Vector Entry 16 :=
  #v[.one .and_a_b, .one .and_a_c, .one .and_a_d, .one .and_a_e, .one .and_a_h, .one .and_a_l, .one .and_a_atHl,
    .one .and_a_a, .one .xor_a_b, .one .xor_a_c, .one .xor_a_d, .one .xor_a_e, .one .xor_a_h, .one .xor_a_l,
    .one .xor_a_atHl, .one .xor_a_a]

/-- Row 0xB of the main table (R75), column 0 first. -/
def mainRowB : Vector Entry 16 :=
  #v[.one .or_a_b, .one .or_a_c, .one .or_a_d, .one .or_a_e, .one .or_a_h, .one .or_a_l, .one .or_a_atHl,
    .one .or_a_a, .one .cp_a_b, .one .cp_a_c, .one .cp_a_d, .one .cp_a_e, .one .cp_a_h, .one .cp_a_l,
    .one .cp_a_atHl, .one .cp_a_a]

/-- Row 0xC of the main table (R75), column 0 first. -/
def mainRowC : Vector Entry 16 :=
  #v[.one .ret_nz, .one .pop_bc, .three .jp_nz_a16, .three .jp_a16, .three .call_nz_a16, .one .push_bc,
    .two .add_a_d8, .one .rst_00, .one .ret_z, .one .ret, .three .jp_z_a16, .one .prefix_cb, .three .call_z_a16,
    .three .call_a16, .two .adc_a_d8, .one .rst_08]

/-- Row 0xD of the main table (R75), column 0 first. -/
def mainRowD : Vector Entry 16 :=
  #v[.one .ret_nc, .one .pop_de, .three .jp_nc_a16, .one .unassigned_d3, .three .call_nc_a16, .one .push_de,
    .two .sub_a_d8, .one .rst_10, .one .ret_c, .one .reti, .three .jp_c_a16, .one .unassigned_db, .three .call_c_a16,
    .one .unassigned_dd, .two .sbc_a_d8, .one .rst_18]

/-- Row 0xE of the main table (R75), column 0 first. -/
def mainRowE : Vector Entry 16 :=
  #v[.two .ldh_atA8_a, .one .pop_hl, .one .ld_atC_a, .one .unassigned_e3, .one .unassigned_e4, .one .push_hl,
    .two .and_a_d8, .one .rst_20, .two .add_sp_e, .one .jp_hl, .three .ld_atA16_a, .one .unassigned_eb,
    .one .unassigned_ec, .one .unassigned_ed, .two .xor_a_d8, .one .rst_28]

/-- Row 0xF of the main table (R75), column 0 first. -/
def mainRowF : Vector Entry 16 :=
  #v[.two .ldh_a_atA8, .one .pop_af, .one .ld_a_atC, .one .di, .one .unassigned_f4, .one .push_af, .two .or_a_d8,
    .one .rst_30, .two .ld_hl_sp_e, .one .ld_sp_hl, .three .ld_a_atA16, .one .ei, .one .unassigned_fc,
    .one .unassigned_fd, .two .cp_a_d8, .one .rst_38]

/-- The main table, row 0x0 first (R75). -/
def mainTable : Vector (Vector Entry 16) 16 :=
  #v[mainRow0, mainRow1, mainRow2, mainRow3, mainRow4, mainRow5, mainRow6, mainRow7,
    mainRow8, mainRow9, mainRowA, mainRowB, mainRowC, mainRowD, mainRowE, mainRowF]

/-- Row 0x0 of the CB table (R76), column 0 first. -/
def cbRow0 : Vector Entry 16 :=
  #v[.one .rlc_b, .one .rlc_c, .one .rlc_d, .one .rlc_e, .one .rlc_h, .one .rlc_l, .one .rlc_atHl, .one .rlc_a,
    .one .rrc_b, .one .rrc_c, .one .rrc_d, .one .rrc_e, .one .rrc_h, .one .rrc_l, .one .rrc_atHl, .one .rrc_a]

/-- Row 0x1 of the CB table (R76), column 0 first. -/
def cbRow1 : Vector Entry 16 :=
  #v[.one .rl_b, .one .rl_c, .one .rl_d, .one .rl_e, .one .rl_h, .one .rl_l, .one .rl_atHl, .one .rl_a, .one .rr_b,
    .one .rr_c, .one .rr_d, .one .rr_e, .one .rr_h, .one .rr_l, .one .rr_atHl, .one .rr_a]

/-- Row 0x2 of the CB table (R76), column 0 first. -/
def cbRow2 : Vector Entry 16 :=
  #v[.one .sla_b, .one .sla_c, .one .sla_d, .one .sla_e, .one .sla_h, .one .sla_l, .one .sla_atHl, .one .sla_a,
    .one .sra_b, .one .sra_c, .one .sra_d, .one .sra_e, .one .sra_h, .one .sra_l, .one .sra_atHl, .one .sra_a]

/-- Row 0x3 of the CB table (R76), column 0 first. -/
def cbRow3 : Vector Entry 16 :=
  #v[.one .swap_b, .one .swap_c, .one .swap_d, .one .swap_e, .one .swap_h, .one .swap_l, .one .swap_atHl,
    .one .swap_a, .one .srl_b, .one .srl_c, .one .srl_d, .one .srl_e, .one .srl_h, .one .srl_l, .one .srl_atHl,
    .one .srl_a]

/-- Row 0x4 of the CB table (R76), column 0 first. -/
def cbRow4 : Vector Entry 16 :=
  #v[.one .bit_0_b, .one .bit_0_c, .one .bit_0_d, .one .bit_0_e, .one .bit_0_h, .one .bit_0_l, .one .bit_0_atHl,
    .one .bit_0_a, .one .bit_1_b, .one .bit_1_c, .one .bit_1_d, .one .bit_1_e, .one .bit_1_h, .one .bit_1_l,
    .one .bit_1_atHl, .one .bit_1_a]

/-- Row 0x5 of the CB table (R76), column 0 first. -/
def cbRow5 : Vector Entry 16 :=
  #v[.one .bit_2_b, .one .bit_2_c, .one .bit_2_d, .one .bit_2_e, .one .bit_2_h, .one .bit_2_l, .one .bit_2_atHl,
    .one .bit_2_a, .one .bit_3_b, .one .bit_3_c, .one .bit_3_d, .one .bit_3_e, .one .bit_3_h, .one .bit_3_l,
    .one .bit_3_atHl, .one .bit_3_a]

/-- Row 0x6 of the CB table (R76), column 0 first. -/
def cbRow6 : Vector Entry 16 :=
  #v[.one .bit_4_b, .one .bit_4_c, .one .bit_4_d, .one .bit_4_e, .one .bit_4_h, .one .bit_4_l, .one .bit_4_atHl,
    .one .bit_4_a, .one .bit_5_b, .one .bit_5_c, .one .bit_5_d, .one .bit_5_e, .one .bit_5_h, .one .bit_5_l,
    .one .bit_5_atHl, .one .bit_5_a]

/-- Row 0x7 of the CB table (R76), column 0 first. -/
def cbRow7 : Vector Entry 16 :=
  #v[.one .bit_6_b, .one .bit_6_c, .one .bit_6_d, .one .bit_6_e, .one .bit_6_h, .one .bit_6_l, .one .bit_6_atHl,
    .one .bit_6_a, .one .bit_7_b, .one .bit_7_c, .one .bit_7_d, .one .bit_7_e, .one .bit_7_h, .one .bit_7_l,
    .one .bit_7_atHl, .one .bit_7_a]

/-- Row 0x8 of the CB table (R76), column 0 first. -/
def cbRow8 : Vector Entry 16 :=
  #v[.one .res_0_b, .one .res_0_c, .one .res_0_d, .one .res_0_e, .one .res_0_h, .one .res_0_l, .one .res_0_atHl,
    .one .res_0_a, .one .res_1_b, .one .res_1_c, .one .res_1_d, .one .res_1_e, .one .res_1_h, .one .res_1_l,
    .one .res_1_atHl, .one .res_1_a]

/-- Row 0x9 of the CB table (R76), column 0 first. -/
def cbRow9 : Vector Entry 16 :=
  #v[.one .res_2_b, .one .res_2_c, .one .res_2_d, .one .res_2_e, .one .res_2_h, .one .res_2_l, .one .res_2_atHl,
    .one .res_2_a, .one .res_3_b, .one .res_3_c, .one .res_3_d, .one .res_3_e, .one .res_3_h, .one .res_3_l,
    .one .res_3_atHl, .one .res_3_a]

/-- Row 0xA of the CB table (R76), column 0 first. -/
def cbRowA : Vector Entry 16 :=
  #v[.one .res_4_b, .one .res_4_c, .one .res_4_d, .one .res_4_e, .one .res_4_h, .one .res_4_l, .one .res_4_atHl,
    .one .res_4_a, .one .res_5_b, .one .res_5_c, .one .res_5_d, .one .res_5_e, .one .res_5_h, .one .res_5_l,
    .one .res_5_atHl, .one .res_5_a]

/-- Row 0xB of the CB table (R76), column 0 first. -/
def cbRowB : Vector Entry 16 :=
  #v[.one .res_6_b, .one .res_6_c, .one .res_6_d, .one .res_6_e, .one .res_6_h, .one .res_6_l, .one .res_6_atHl,
    .one .res_6_a, .one .res_7_b, .one .res_7_c, .one .res_7_d, .one .res_7_e, .one .res_7_h, .one .res_7_l,
    .one .res_7_atHl, .one .res_7_a]

/-- Row 0xC of the CB table (R76), column 0 first. -/
def cbRowC : Vector Entry 16 :=
  #v[.one .set_0_b, .one .set_0_c, .one .set_0_d, .one .set_0_e, .one .set_0_h, .one .set_0_l, .one .set_0_atHl,
    .one .set_0_a, .one .set_1_b, .one .set_1_c, .one .set_1_d, .one .set_1_e, .one .set_1_h, .one .set_1_l,
    .one .set_1_atHl, .one .set_1_a]

/-- Row 0xD of the CB table (R76), column 0 first. -/
def cbRowD : Vector Entry 16 :=
  #v[.one .set_2_b, .one .set_2_c, .one .set_2_d, .one .set_2_e, .one .set_2_h, .one .set_2_l, .one .set_2_atHl,
    .one .set_2_a, .one .set_3_b, .one .set_3_c, .one .set_3_d, .one .set_3_e, .one .set_3_h, .one .set_3_l,
    .one .set_3_atHl, .one .set_3_a]

/-- Row 0xE of the CB table (R76), column 0 first. -/
def cbRowE : Vector Entry 16 :=
  #v[.one .set_4_b, .one .set_4_c, .one .set_4_d, .one .set_4_e, .one .set_4_h, .one .set_4_l, .one .set_4_atHl,
    .one .set_4_a, .one .set_5_b, .one .set_5_c, .one .set_5_d, .one .set_5_e, .one .set_5_h, .one .set_5_l,
    .one .set_5_atHl, .one .set_5_a]

/-- Row 0xF of the CB table (R76), column 0 first. -/
def cbRowF : Vector Entry 16 :=
  #v[.one .set_6_b, .one .set_6_c, .one .set_6_d, .one .set_6_e, .one .set_6_h, .one .set_6_l, .one .set_6_atHl,
    .one .set_6_a, .one .set_7_b, .one .set_7_c, .one .set_7_d, .one .set_7_e, .one .set_7_h, .one .set_7_l,
    .one .set_7_atHl, .one .set_7_a]

/-- The CB table, row 0x0 first (R76). -/
def cbTable : Vector (Vector Entry 16) 16 :=
  #v[cbRow0, cbRow1, cbRow2, cbRow3, cbRow4, cbRow5, cbRow6, cbRow7,
    cbRow8, cbRow9, cbRowA, cbRowB, cbRowC, cbRowD, cbRowE, cbRowF]

/-- The entry of an opcode byte: row its high nibble, column its low nibble. -/
def entryOf (t : Table) (op : Byte) : Entry :=
  let row : Fin 16 := (op.extractLsb' 4 4).toFin
  let col : Fin 16 := (op.extractLsb' 0 4).toFin
  match t with
  | .main => mainTable[row][col]
  | .cb => cbTable[row][col]

/-- Why bytes do not decode. Every opcode byte has an entry, so only missing bytes are rejected. -/
inductive DecodeError where
  /-- there is no opcode byte -/
  | noOpcode
  /-- the opcode's operand bytes are not all there -/
  | missingOperand
  deriving DecidableEq, Repr

/-- THE DECODER: an instruction of table `t` from the front of a byte list, and the bytes after it. -/
def decode (t : Table) : List Byte → Except DecodeError (Instr × List Byte)
  | [] => .error .noOpcode
  | op :: rest =>
    match entryOf t op with
    | .one i => .ok (i, rest)
    | .two f =>
      match rest with
      | n :: rest => .ok (f n, rest)
      | [] => .error .missingOperand
    | .three f =>
      match rest with
      | low :: high :: rest => .ok (f (imm16 low high), rest)
      | _ => .error .missingOperand

/-- The decoder on the three bytes the CPU reads at PC, which are never too few. -/
def decodeFetched (t : Table) (op b1 b2 : Byte) : Instr :=
  match entryOf t op with
  | .one i => i
  | .two f => f b1
  | .three f => f (imm16 b1 b2)

/-- THE ENCODER: the bytes of an instruction in its own table, opcode first, from the `encoding` of its row. A CB-table
instruction is one byte here, "always length 1 after the prefix byte" (R70). -/
def encode : Instr → List Byte
  | .nop => [0x00]
  | .ld_bc_d16 nn => [0x01, nn.extractLsb' 0 8, nn.extractLsb' 8 8]
  | .ld_atBc_a => [0x02]
  | .inc_bc => [0x03]
  | .inc_b => [0x04]
  | .dec_b => [0x05]
  | .ld_b_d8 n => [0x06, n]
  | .rlca => [0x07]
  | .ld_atA16_sp nn => [0x08, nn.extractLsb' 0 8, nn.extractLsb' 8 8]
  | .add_hl_bc => [0x09]
  | .ld_a_atBc => [0x0A]
  | .dec_bc => [0x0B]
  | .inc_c => [0x0C]
  | .dec_c => [0x0D]
  | .ld_c_d8 n => [0x0E, n]
  | .rrca => [0x0F]
  | .stop n => [0x10, n]
  | .ld_de_d16 nn => [0x11, nn.extractLsb' 0 8, nn.extractLsb' 8 8]
  | .ld_atDe_a => [0x12]
  | .inc_de => [0x13]
  | .inc_d => [0x14]
  | .dec_d => [0x15]
  | .ld_d_d8 n => [0x16, n]
  | .rla => [0x17]
  | .jr_e e => [0x18, e]
  | .add_hl_de => [0x19]
  | .ld_a_atDe => [0x1A]
  | .dec_de => [0x1B]
  | .inc_e => [0x1C]
  | .dec_e => [0x1D]
  | .ld_e_d8 n => [0x1E, n]
  | .rra => [0x1F]
  | .jr_nz_e e => [0x20, e]
  | .ld_hl_d16 nn => [0x21, nn.extractLsb' 0 8, nn.extractLsb' 8 8]
  | .ld_atHlInc_a => [0x22]
  | .inc_hl => [0x23]
  | .inc_h => [0x24]
  | .dec_h => [0x25]
  | .ld_h_d8 n => [0x26, n]
  | .daa => [0x27]
  | .jr_z_e e => [0x28, e]
  | .add_hl_hl => [0x29]
  | .ld_a_atHlInc => [0x2A]
  | .dec_hl => [0x2B]
  | .inc_l => [0x2C]
  | .dec_l => [0x2D]
  | .ld_l_d8 n => [0x2E, n]
  | .cpl => [0x2F]
  | .jr_nc_e e => [0x30, e]
  | .ld_sp_d16 nn => [0x31, nn.extractLsb' 0 8, nn.extractLsb' 8 8]
  | .ld_atHlDec_a => [0x32]
  | .inc_sp => [0x33]
  | .inc_atHl => [0x34]
  | .dec_atHl => [0x35]
  | .ld_atHl_d8 n => [0x36, n]
  | .scf => [0x37]
  | .jr_c_e e => [0x38, e]
  | .add_hl_sp => [0x39]
  | .ld_a_atHlDec => [0x3A]
  | .dec_sp => [0x3B]
  | .inc_a => [0x3C]
  | .dec_a => [0x3D]
  | .ld_a_d8 n => [0x3E, n]
  | .ccf => [0x3F]
  | .ld_b_b => [0x40]
  | .ld_b_c => [0x41]
  | .ld_b_d => [0x42]
  | .ld_b_e => [0x43]
  | .ld_b_h => [0x44]
  | .ld_b_l => [0x45]
  | .ld_b_atHl => [0x46]
  | .ld_b_a => [0x47]
  | .ld_c_b => [0x48]
  | .ld_c_c => [0x49]
  | .ld_c_d => [0x4A]
  | .ld_c_e => [0x4B]
  | .ld_c_h => [0x4C]
  | .ld_c_l => [0x4D]
  | .ld_c_atHl => [0x4E]
  | .ld_c_a => [0x4F]
  | .ld_d_b => [0x50]
  | .ld_d_c => [0x51]
  | .ld_d_d => [0x52]
  | .ld_d_e => [0x53]
  | .ld_d_h => [0x54]
  | .ld_d_l => [0x55]
  | .ld_d_atHl => [0x56]
  | .ld_d_a => [0x57]
  | .ld_e_b => [0x58]
  | .ld_e_c => [0x59]
  | .ld_e_d => [0x5A]
  | .ld_e_e => [0x5B]
  | .ld_e_h => [0x5C]
  | .ld_e_l => [0x5D]
  | .ld_e_atHl => [0x5E]
  | .ld_e_a => [0x5F]
  | .ld_h_b => [0x60]
  | .ld_h_c => [0x61]
  | .ld_h_d => [0x62]
  | .ld_h_e => [0x63]
  | .ld_h_h => [0x64]
  | .ld_h_l => [0x65]
  | .ld_h_atHl => [0x66]
  | .ld_h_a => [0x67]
  | .ld_l_b => [0x68]
  | .ld_l_c => [0x69]
  | .ld_l_d => [0x6A]
  | .ld_l_e => [0x6B]
  | .ld_l_h => [0x6C]
  | .ld_l_l => [0x6D]
  | .ld_l_atHl => [0x6E]
  | .ld_l_a => [0x6F]
  | .ld_atHl_b => [0x70]
  | .ld_atHl_c => [0x71]
  | .ld_atHl_d => [0x72]
  | .ld_atHl_e => [0x73]
  | .ld_atHl_h => [0x74]
  | .ld_atHl_l => [0x75]
  | .halt => [0x76]
  | .ld_atHl_a => [0x77]
  | .ld_a_b => [0x78]
  | .ld_a_c => [0x79]
  | .ld_a_d => [0x7A]
  | .ld_a_e => [0x7B]
  | .ld_a_h => [0x7C]
  | .ld_a_l => [0x7D]
  | .ld_a_atHl => [0x7E]
  | .ld_a_a => [0x7F]
  | .add_a_b => [0x80]
  | .add_a_c => [0x81]
  | .add_a_d => [0x82]
  | .add_a_e => [0x83]
  | .add_a_h => [0x84]
  | .add_a_l => [0x85]
  | .add_a_atHl => [0x86]
  | .add_a_a => [0x87]
  | .adc_a_b => [0x88]
  | .adc_a_c => [0x89]
  | .adc_a_d => [0x8A]
  | .adc_a_e => [0x8B]
  | .adc_a_h => [0x8C]
  | .adc_a_l => [0x8D]
  | .adc_a_atHl => [0x8E]
  | .adc_a_a => [0x8F]
  | .sub_a_b => [0x90]
  | .sub_a_c => [0x91]
  | .sub_a_d => [0x92]
  | .sub_a_e => [0x93]
  | .sub_a_h => [0x94]
  | .sub_a_l => [0x95]
  | .sub_a_atHl => [0x96]
  | .sub_a_a => [0x97]
  | .sbc_a_b => [0x98]
  | .sbc_a_c => [0x99]
  | .sbc_a_d => [0x9A]
  | .sbc_a_e => [0x9B]
  | .sbc_a_h => [0x9C]
  | .sbc_a_l => [0x9D]
  | .sbc_a_atHl => [0x9E]
  | .sbc_a_a => [0x9F]
  | .and_a_b => [0xA0]
  | .and_a_c => [0xA1]
  | .and_a_d => [0xA2]
  | .and_a_e => [0xA3]
  | .and_a_h => [0xA4]
  | .and_a_l => [0xA5]
  | .and_a_atHl => [0xA6]
  | .and_a_a => [0xA7]
  | .xor_a_b => [0xA8]
  | .xor_a_c => [0xA9]
  | .xor_a_d => [0xAA]
  | .xor_a_e => [0xAB]
  | .xor_a_h => [0xAC]
  | .xor_a_l => [0xAD]
  | .xor_a_atHl => [0xAE]
  | .xor_a_a => [0xAF]
  | .or_a_b => [0xB0]
  | .or_a_c => [0xB1]
  | .or_a_d => [0xB2]
  | .or_a_e => [0xB3]
  | .or_a_h => [0xB4]
  | .or_a_l => [0xB5]
  | .or_a_atHl => [0xB6]
  | .or_a_a => [0xB7]
  | .cp_a_b => [0xB8]
  | .cp_a_c => [0xB9]
  | .cp_a_d => [0xBA]
  | .cp_a_e => [0xBB]
  | .cp_a_h => [0xBC]
  | .cp_a_l => [0xBD]
  | .cp_a_atHl => [0xBE]
  | .cp_a_a => [0xBF]
  | .ret_nz => [0xC0]
  | .pop_bc => [0xC1]
  | .jp_nz_a16 nn => [0xC2, nn.extractLsb' 0 8, nn.extractLsb' 8 8]
  | .jp_a16 nn => [0xC3, nn.extractLsb' 0 8, nn.extractLsb' 8 8]
  | .call_nz_a16 nn => [0xC4, nn.extractLsb' 0 8, nn.extractLsb' 8 8]
  | .push_bc => [0xC5]
  | .add_a_d8 n => [0xC6, n]
  | .rst_00 => [0xC7]
  | .ret_z => [0xC8]
  | .ret => [0xC9]
  | .jp_z_a16 nn => [0xCA, nn.extractLsb' 0 8, nn.extractLsb' 8 8]
  | .prefix_cb => [0xCB]
  | .call_z_a16 nn => [0xCC, nn.extractLsb' 0 8, nn.extractLsb' 8 8]
  | .call_a16 nn => [0xCD, nn.extractLsb' 0 8, nn.extractLsb' 8 8]
  | .adc_a_d8 n => [0xCE, n]
  | .rst_08 => [0xCF]
  | .ret_nc => [0xD0]
  | .pop_de => [0xD1]
  | .jp_nc_a16 nn => [0xD2, nn.extractLsb' 0 8, nn.extractLsb' 8 8]
  | .unassigned_d3 => [0xD3]
  | .call_nc_a16 nn => [0xD4, nn.extractLsb' 0 8, nn.extractLsb' 8 8]
  | .push_de => [0xD5]
  | .sub_a_d8 n => [0xD6, n]
  | .rst_10 => [0xD7]
  | .ret_c => [0xD8]
  | .reti => [0xD9]
  | .jp_c_a16 nn => [0xDA, nn.extractLsb' 0 8, nn.extractLsb' 8 8]
  | .unassigned_db => [0xDB]
  | .call_c_a16 nn => [0xDC, nn.extractLsb' 0 8, nn.extractLsb' 8 8]
  | .unassigned_dd => [0xDD]
  | .sbc_a_d8 n => [0xDE, n]
  | .rst_18 => [0xDF]
  | .ldh_atA8_a n => [0xE0, n]
  | .pop_hl => [0xE1]
  | .ld_atC_a => [0xE2]
  | .unassigned_e3 => [0xE3]
  | .unassigned_e4 => [0xE4]
  | .push_hl => [0xE5]
  | .and_a_d8 n => [0xE6, n]
  | .rst_20 => [0xE7]
  | .add_sp_e e => [0xE8, e]
  | .jp_hl => [0xE9]
  | .ld_atA16_a nn => [0xEA, nn.extractLsb' 0 8, nn.extractLsb' 8 8]
  | .unassigned_eb => [0xEB]
  | .unassigned_ec => [0xEC]
  | .unassigned_ed => [0xED]
  | .xor_a_d8 n => [0xEE, n]
  | .rst_28 => [0xEF]
  | .ldh_a_atA8 n => [0xF0, n]
  | .pop_af => [0xF1]
  | .ld_a_atC => [0xF2]
  | .di => [0xF3]
  | .unassigned_f4 => [0xF4]
  | .push_af => [0xF5]
  | .or_a_d8 n => [0xF6, n]
  | .rst_30 => [0xF7]
  | .ld_hl_sp_e e => [0xF8, e]
  | .ld_sp_hl => [0xF9]
  | .ld_a_atA16 nn => [0xFA, nn.extractLsb' 0 8, nn.extractLsb' 8 8]
  | .ei => [0xFB]
  | .unassigned_fc => [0xFC]
  | .unassigned_fd => [0xFD]
  | .cp_a_d8 n => [0xFE, n]
  | .rst_38 => [0xFF]
  | .rlc_b => [0x00]
  | .rlc_c => [0x01]
  | .rlc_d => [0x02]
  | .rlc_e => [0x03]
  | .rlc_h => [0x04]
  | .rlc_l => [0x05]
  | .rlc_atHl => [0x06]
  | .rlc_a => [0x07]
  | .rrc_b => [0x08]
  | .rrc_c => [0x09]
  | .rrc_d => [0x0A]
  | .rrc_e => [0x0B]
  | .rrc_h => [0x0C]
  | .rrc_l => [0x0D]
  | .rrc_atHl => [0x0E]
  | .rrc_a => [0x0F]
  | .rl_b => [0x10]
  | .rl_c => [0x11]
  | .rl_d => [0x12]
  | .rl_e => [0x13]
  | .rl_h => [0x14]
  | .rl_l => [0x15]
  | .rl_atHl => [0x16]
  | .rl_a => [0x17]
  | .rr_b => [0x18]
  | .rr_c => [0x19]
  | .rr_d => [0x1A]
  | .rr_e => [0x1B]
  | .rr_h => [0x1C]
  | .rr_l => [0x1D]
  | .rr_atHl => [0x1E]
  | .rr_a => [0x1F]
  | .sla_b => [0x20]
  | .sla_c => [0x21]
  | .sla_d => [0x22]
  | .sla_e => [0x23]
  | .sla_h => [0x24]
  | .sla_l => [0x25]
  | .sla_atHl => [0x26]
  | .sla_a => [0x27]
  | .sra_b => [0x28]
  | .sra_c => [0x29]
  | .sra_d => [0x2A]
  | .sra_e => [0x2B]
  | .sra_h => [0x2C]
  | .sra_l => [0x2D]
  | .sra_atHl => [0x2E]
  | .sra_a => [0x2F]
  | .swap_b => [0x30]
  | .swap_c => [0x31]
  | .swap_d => [0x32]
  | .swap_e => [0x33]
  | .swap_h => [0x34]
  | .swap_l => [0x35]
  | .swap_atHl => [0x36]
  | .swap_a => [0x37]
  | .srl_b => [0x38]
  | .srl_c => [0x39]
  | .srl_d => [0x3A]
  | .srl_e => [0x3B]
  | .srl_h => [0x3C]
  | .srl_l => [0x3D]
  | .srl_atHl => [0x3E]
  | .srl_a => [0x3F]
  | .bit_0_b => [0x40]
  | .bit_0_c => [0x41]
  | .bit_0_d => [0x42]
  | .bit_0_e => [0x43]
  | .bit_0_h => [0x44]
  | .bit_0_l => [0x45]
  | .bit_0_atHl => [0x46]
  | .bit_0_a => [0x47]
  | .bit_1_b => [0x48]
  | .bit_1_c => [0x49]
  | .bit_1_d => [0x4A]
  | .bit_1_e => [0x4B]
  | .bit_1_h => [0x4C]
  | .bit_1_l => [0x4D]
  | .bit_1_atHl => [0x4E]
  | .bit_1_a => [0x4F]
  | .bit_2_b => [0x50]
  | .bit_2_c => [0x51]
  | .bit_2_d => [0x52]
  | .bit_2_e => [0x53]
  | .bit_2_h => [0x54]
  | .bit_2_l => [0x55]
  | .bit_2_atHl => [0x56]
  | .bit_2_a => [0x57]
  | .bit_3_b => [0x58]
  | .bit_3_c => [0x59]
  | .bit_3_d => [0x5A]
  | .bit_3_e => [0x5B]
  | .bit_3_h => [0x5C]
  | .bit_3_l => [0x5D]
  | .bit_3_atHl => [0x5E]
  | .bit_3_a => [0x5F]
  | .bit_4_b => [0x60]
  | .bit_4_c => [0x61]
  | .bit_4_d => [0x62]
  | .bit_4_e => [0x63]
  | .bit_4_h => [0x64]
  | .bit_4_l => [0x65]
  | .bit_4_atHl => [0x66]
  | .bit_4_a => [0x67]
  | .bit_5_b => [0x68]
  | .bit_5_c => [0x69]
  | .bit_5_d => [0x6A]
  | .bit_5_e => [0x6B]
  | .bit_5_h => [0x6C]
  | .bit_5_l => [0x6D]
  | .bit_5_atHl => [0x6E]
  | .bit_5_a => [0x6F]
  | .bit_6_b => [0x70]
  | .bit_6_c => [0x71]
  | .bit_6_d => [0x72]
  | .bit_6_e => [0x73]
  | .bit_6_h => [0x74]
  | .bit_6_l => [0x75]
  | .bit_6_atHl => [0x76]
  | .bit_6_a => [0x77]
  | .bit_7_b => [0x78]
  | .bit_7_c => [0x79]
  | .bit_7_d => [0x7A]
  | .bit_7_e => [0x7B]
  | .bit_7_h => [0x7C]
  | .bit_7_l => [0x7D]
  | .bit_7_atHl => [0x7E]
  | .bit_7_a => [0x7F]
  | .res_0_b => [0x80]
  | .res_0_c => [0x81]
  | .res_0_d => [0x82]
  | .res_0_e => [0x83]
  | .res_0_h => [0x84]
  | .res_0_l => [0x85]
  | .res_0_atHl => [0x86]
  | .res_0_a => [0x87]
  | .res_1_b => [0x88]
  | .res_1_c => [0x89]
  | .res_1_d => [0x8A]
  | .res_1_e => [0x8B]
  | .res_1_h => [0x8C]
  | .res_1_l => [0x8D]
  | .res_1_atHl => [0x8E]
  | .res_1_a => [0x8F]
  | .res_2_b => [0x90]
  | .res_2_c => [0x91]
  | .res_2_d => [0x92]
  | .res_2_e => [0x93]
  | .res_2_h => [0x94]
  | .res_2_l => [0x95]
  | .res_2_atHl => [0x96]
  | .res_2_a => [0x97]
  | .res_3_b => [0x98]
  | .res_3_c => [0x99]
  | .res_3_d => [0x9A]
  | .res_3_e => [0x9B]
  | .res_3_h => [0x9C]
  | .res_3_l => [0x9D]
  | .res_3_atHl => [0x9E]
  | .res_3_a => [0x9F]
  | .res_4_b => [0xA0]
  | .res_4_c => [0xA1]
  | .res_4_d => [0xA2]
  | .res_4_e => [0xA3]
  | .res_4_h => [0xA4]
  | .res_4_l => [0xA5]
  | .res_4_atHl => [0xA6]
  | .res_4_a => [0xA7]
  | .res_5_b => [0xA8]
  | .res_5_c => [0xA9]
  | .res_5_d => [0xAA]
  | .res_5_e => [0xAB]
  | .res_5_h => [0xAC]
  | .res_5_l => [0xAD]
  | .res_5_atHl => [0xAE]
  | .res_5_a => [0xAF]
  | .res_6_b => [0xB0]
  | .res_6_c => [0xB1]
  | .res_6_d => [0xB2]
  | .res_6_e => [0xB3]
  | .res_6_h => [0xB4]
  | .res_6_l => [0xB5]
  | .res_6_atHl => [0xB6]
  | .res_6_a => [0xB7]
  | .res_7_b => [0xB8]
  | .res_7_c => [0xB9]
  | .res_7_d => [0xBA]
  | .res_7_e => [0xBB]
  | .res_7_h => [0xBC]
  | .res_7_l => [0xBD]
  | .res_7_atHl => [0xBE]
  | .res_7_a => [0xBF]
  | .set_0_b => [0xC0]
  | .set_0_c => [0xC1]
  | .set_0_d => [0xC2]
  | .set_0_e => [0xC3]
  | .set_0_h => [0xC4]
  | .set_0_l => [0xC5]
  | .set_0_atHl => [0xC6]
  | .set_0_a => [0xC7]
  | .set_1_b => [0xC8]
  | .set_1_c => [0xC9]
  | .set_1_d => [0xCA]
  | .set_1_e => [0xCB]
  | .set_1_h => [0xCC]
  | .set_1_l => [0xCD]
  | .set_1_atHl => [0xCE]
  | .set_1_a => [0xCF]
  | .set_2_b => [0xD0]
  | .set_2_c => [0xD1]
  | .set_2_d => [0xD2]
  | .set_2_e => [0xD3]
  | .set_2_h => [0xD4]
  | .set_2_l => [0xD5]
  | .set_2_atHl => [0xD6]
  | .set_2_a => [0xD7]
  | .set_3_b => [0xD8]
  | .set_3_c => [0xD9]
  | .set_3_d => [0xDA]
  | .set_3_e => [0xDB]
  | .set_3_h => [0xDC]
  | .set_3_l => [0xDD]
  | .set_3_atHl => [0xDE]
  | .set_3_a => [0xDF]
  | .set_4_b => [0xE0]
  | .set_4_c => [0xE1]
  | .set_4_d => [0xE2]
  | .set_4_e => [0xE3]
  | .set_4_h => [0xE4]
  | .set_4_l => [0xE5]
  | .set_4_atHl => [0xE6]
  | .set_4_a => [0xE7]
  | .set_5_b => [0xE8]
  | .set_5_c => [0xE9]
  | .set_5_d => [0xEA]
  | .set_5_e => [0xEB]
  | .set_5_h => [0xEC]
  | .set_5_l => [0xED]
  | .set_5_atHl => [0xEE]
  | .set_5_a => [0xEF]
  | .set_6_b => [0xF0]
  | .set_6_c => [0xF1]
  | .set_6_d => [0xF2]
  | .set_6_e => [0xF3]
  | .set_6_h => [0xF4]
  | .set_6_l => [0xF5]
  | .set_6_atHl => [0xF6]
  | .set_6_a => [0xF7]
  | .set_7_b => [0xF8]
  | .set_7_c => [0xF9]
  | .set_7_d => [0xFA]
  | .set_7_e => [0xFB]
  | .set_7_h => [0xFC]
  | .set_7_l => [0xFD]
  | .set_7_atHl => [0xFE]
  | .set_7_a => [0xFF]

/-- The table an instruction stands in (spec/opcode_table.json, `table`). -/
def Instr.table : Instr → Table
  | .rlc_b => .cb
  | .rlc_c => .cb
  | .rlc_d => .cb
  | .rlc_e => .cb
  | .rlc_h => .cb
  | .rlc_l => .cb
  | .rlc_atHl => .cb
  | .rlc_a => .cb
  | .rrc_b => .cb
  | .rrc_c => .cb
  | .rrc_d => .cb
  | .rrc_e => .cb
  | .rrc_h => .cb
  | .rrc_l => .cb
  | .rrc_atHl => .cb
  | .rrc_a => .cb
  | .rl_b => .cb
  | .rl_c => .cb
  | .rl_d => .cb
  | .rl_e => .cb
  | .rl_h => .cb
  | .rl_l => .cb
  | .rl_atHl => .cb
  | .rl_a => .cb
  | .rr_b => .cb
  | .rr_c => .cb
  | .rr_d => .cb
  | .rr_e => .cb
  | .rr_h => .cb
  | .rr_l => .cb
  | .rr_atHl => .cb
  | .rr_a => .cb
  | .sla_b => .cb
  | .sla_c => .cb
  | .sla_d => .cb
  | .sla_e => .cb
  | .sla_h => .cb
  | .sla_l => .cb
  | .sla_atHl => .cb
  | .sla_a => .cb
  | .sra_b => .cb
  | .sra_c => .cb
  | .sra_d => .cb
  | .sra_e => .cb
  | .sra_h => .cb
  | .sra_l => .cb
  | .sra_atHl => .cb
  | .sra_a => .cb
  | .swap_b => .cb
  | .swap_c => .cb
  | .swap_d => .cb
  | .swap_e => .cb
  | .swap_h => .cb
  | .swap_l => .cb
  | .swap_atHl => .cb
  | .swap_a => .cb
  | .srl_b => .cb
  | .srl_c => .cb
  | .srl_d => .cb
  | .srl_e => .cb
  | .srl_h => .cb
  | .srl_l => .cb
  | .srl_atHl => .cb
  | .srl_a => .cb
  | .bit_0_b => .cb
  | .bit_0_c => .cb
  | .bit_0_d => .cb
  | .bit_0_e => .cb
  | .bit_0_h => .cb
  | .bit_0_l => .cb
  | .bit_0_atHl => .cb
  | .bit_0_a => .cb
  | .bit_1_b => .cb
  | .bit_1_c => .cb
  | .bit_1_d => .cb
  | .bit_1_e => .cb
  | .bit_1_h => .cb
  | .bit_1_l => .cb
  | .bit_1_atHl => .cb
  | .bit_1_a => .cb
  | .bit_2_b => .cb
  | .bit_2_c => .cb
  | .bit_2_d => .cb
  | .bit_2_e => .cb
  | .bit_2_h => .cb
  | .bit_2_l => .cb
  | .bit_2_atHl => .cb
  | .bit_2_a => .cb
  | .bit_3_b => .cb
  | .bit_3_c => .cb
  | .bit_3_d => .cb
  | .bit_3_e => .cb
  | .bit_3_h => .cb
  | .bit_3_l => .cb
  | .bit_3_atHl => .cb
  | .bit_3_a => .cb
  | .bit_4_b => .cb
  | .bit_4_c => .cb
  | .bit_4_d => .cb
  | .bit_4_e => .cb
  | .bit_4_h => .cb
  | .bit_4_l => .cb
  | .bit_4_atHl => .cb
  | .bit_4_a => .cb
  | .bit_5_b => .cb
  | .bit_5_c => .cb
  | .bit_5_d => .cb
  | .bit_5_e => .cb
  | .bit_5_h => .cb
  | .bit_5_l => .cb
  | .bit_5_atHl => .cb
  | .bit_5_a => .cb
  | .bit_6_b => .cb
  | .bit_6_c => .cb
  | .bit_6_d => .cb
  | .bit_6_e => .cb
  | .bit_6_h => .cb
  | .bit_6_l => .cb
  | .bit_6_atHl => .cb
  | .bit_6_a => .cb
  | .bit_7_b => .cb
  | .bit_7_c => .cb
  | .bit_7_d => .cb
  | .bit_7_e => .cb
  | .bit_7_h => .cb
  | .bit_7_l => .cb
  | .bit_7_atHl => .cb
  | .bit_7_a => .cb
  | .res_0_b => .cb
  | .res_0_c => .cb
  | .res_0_d => .cb
  | .res_0_e => .cb
  | .res_0_h => .cb
  | .res_0_l => .cb
  | .res_0_atHl => .cb
  | .res_0_a => .cb
  | .res_1_b => .cb
  | .res_1_c => .cb
  | .res_1_d => .cb
  | .res_1_e => .cb
  | .res_1_h => .cb
  | .res_1_l => .cb
  | .res_1_atHl => .cb
  | .res_1_a => .cb
  | .res_2_b => .cb
  | .res_2_c => .cb
  | .res_2_d => .cb
  | .res_2_e => .cb
  | .res_2_h => .cb
  | .res_2_l => .cb
  | .res_2_atHl => .cb
  | .res_2_a => .cb
  | .res_3_b => .cb
  | .res_3_c => .cb
  | .res_3_d => .cb
  | .res_3_e => .cb
  | .res_3_h => .cb
  | .res_3_l => .cb
  | .res_3_atHl => .cb
  | .res_3_a => .cb
  | .res_4_b => .cb
  | .res_4_c => .cb
  | .res_4_d => .cb
  | .res_4_e => .cb
  | .res_4_h => .cb
  | .res_4_l => .cb
  | .res_4_atHl => .cb
  | .res_4_a => .cb
  | .res_5_b => .cb
  | .res_5_c => .cb
  | .res_5_d => .cb
  | .res_5_e => .cb
  | .res_5_h => .cb
  | .res_5_l => .cb
  | .res_5_atHl => .cb
  | .res_5_a => .cb
  | .res_6_b => .cb
  | .res_6_c => .cb
  | .res_6_d => .cb
  | .res_6_e => .cb
  | .res_6_h => .cb
  | .res_6_l => .cb
  | .res_6_atHl => .cb
  | .res_6_a => .cb
  | .res_7_b => .cb
  | .res_7_c => .cb
  | .res_7_d => .cb
  | .res_7_e => .cb
  | .res_7_h => .cb
  | .res_7_l => .cb
  | .res_7_atHl => .cb
  | .res_7_a => .cb
  | .set_0_b => .cb
  | .set_0_c => .cb
  | .set_0_d => .cb
  | .set_0_e => .cb
  | .set_0_h => .cb
  | .set_0_l => .cb
  | .set_0_atHl => .cb
  | .set_0_a => .cb
  | .set_1_b => .cb
  | .set_1_c => .cb
  | .set_1_d => .cb
  | .set_1_e => .cb
  | .set_1_h => .cb
  | .set_1_l => .cb
  | .set_1_atHl => .cb
  | .set_1_a => .cb
  | .set_2_b => .cb
  | .set_2_c => .cb
  | .set_2_d => .cb
  | .set_2_e => .cb
  | .set_2_h => .cb
  | .set_2_l => .cb
  | .set_2_atHl => .cb
  | .set_2_a => .cb
  | .set_3_b => .cb
  | .set_3_c => .cb
  | .set_3_d => .cb
  | .set_3_e => .cb
  | .set_3_h => .cb
  | .set_3_l => .cb
  | .set_3_atHl => .cb
  | .set_3_a => .cb
  | .set_4_b => .cb
  | .set_4_c => .cb
  | .set_4_d => .cb
  | .set_4_e => .cb
  | .set_4_h => .cb
  | .set_4_l => .cb
  | .set_4_atHl => .cb
  | .set_4_a => .cb
  | .set_5_b => .cb
  | .set_5_c => .cb
  | .set_5_d => .cb
  | .set_5_e => .cb
  | .set_5_h => .cb
  | .set_5_l => .cb
  | .set_5_atHl => .cb
  | .set_5_a => .cb
  | .set_6_b => .cb
  | .set_6_c => .cb
  | .set_6_d => .cb
  | .set_6_e => .cb
  | .set_6_h => .cb
  | .set_6_l => .cb
  | .set_6_atHl => .cb
  | .set_6_a => .cb
  | .set_7_b => .cb
  | .set_7_c => .cb
  | .set_7_d => .cb
  | .set_7_e => .cb
  | .set_7_h => .cb
  | .set_7_l => .cb
  | .set_7_atHl => .cb
  | .set_7_a => .cb
  | _ => .main

/-- The bytes an assembler writes: a CB-table instruction after its prefix 0xCB (30_encoding.md R81). -/
def assemble (i : Instr) : List Byte :=
  match i.table with
  | .main => encode i
  | .cb => 0xCB :: encode i

/-- The instruction in a table word of `nbits` bits, its first byte lowest. A word of 16 bits or more whose first byte is
0xCB is a CB-table instruction after its prefix; every other word's first byte is a main-table opcode. DESIGN CHOICE
(log entry 10): the table gives a CB row the same eight bits as a main row, so a word of 8 bits is read in the main table. -/
def decodeTableWord (nbits w : Nat) : Option Instr :=
  let v := w % 2 ^ nbits
  let b0 : Byte := BitVec.ofNat 8 v
  let b1 : Byte := BitVec.ofNat 8 (v / 256)
  let b2 : Byte := BitVec.ofNat 8 (v / 65536)
  let decoded := if 16 ≤ nbits ∧ b0 = 0xCB then decode .cb [b1] else decode .main [b0, b1, b2]
  match decoded with
  | .ok (i, _) => some i
  | .error _ => none

end Sys2Proof
end

