-- ==== Sys2Proof/Machine/Bits.lean ====
section
/-! DEFINITION. Bit-field, byte-order and sign-extension helpers (00_scope.md section 6 and section 7). -/

namespace Sys2Proof.Machine

/-- `v[15:8]`. -/
def hiByte (v : Word) : Byte := v.extractLsb' 8 8

/-- `v[7:0]`. -/
def loByte (v : Word) : Byte := v.extractLsb' 0 8

/-- `{hi, lo}`: `hi` in bits 15:8. -/
def joinBytes (hi lo : Byte) : Word := hi ++ lo

/-- `sext_16(e)`. -/
def sext16 (e : Byte) : Word := e.signExtend 16

/-- `zext_16(v)`. -/
def zext16 (v : Byte) : Word := v.zeroExtend 16

/-- `v[3:0]` as a number. -/
def loNibble (v : Byte) : Nat := v.toNat % 16

end Sys2Proof.Machine
end

