-- ==== Sys2Proof/Config.lean ====
section
/-! DEFINITION. The named parameters of the spec (00_scope.md section 4) and the model's free values. -/

namespace Sys2Proof

/-- `STOP_BEHAVIOUR` (46_misc_system.md R233). -/
inductive StopBehaviour where
  /-- skip the two bytes, the default -/
  | nop2
  /-- wait as `HALT` does -/
  | halt
  /-- raise `DecodeFault(0x10, PC)` -/
  | fault
  deriving DecidableEq, Repr

/-- The parameters a run is given before its first tick and never changes.
DESIGN CHOICE (log entry 1): they stand in State as plain data, so a statement holds for every value of them. Safe. -/
structure Params where
  /-- `STOP_BEHAVIOUR`, R233 -/
  stopBehaviour : StopBehaviour
  /-- `PIXEL_ITERS_PER_TICK`, R311 -/
  pixelItersPerTick : Nat
  deriving DecidableEq, Repr

/-- The defaults of 00_scope.md section 4. -/
def Params.default : Params := { stopBehaviour := .nop2, pixelItersPerTick := 4 }

/-- Which access of a tick reads a byte, in program order (20_memory.md R59). Two reads of one tick are told apart by
their access and their address, so that each gets a draw of its own where R55 asks for one. -/
inductive Access where
  /-- the opcode fetch at PC -/
  | opcode
  /-- the operand byte at PC + 1 -/
  | operand1
  /-- the operand byte at PC + 2 -/
  | operand2
  /-- the data read of the instruction (its second byte, if any, at the next address) -/
  | data
  /-- the host's `n`-th read between two ticks -/
  | host (n : Nat)
  deriving DecidableEq, Repr

/-- FREE VALUE, `IoExternalRead(addr)`: what a read of an unlisted I/O address returns, "a draw: any 8-bit value,
possibly different at every read" (20_memory.md R55). It is applied to the tick's number in `State.drawCount`, to the
access and to the address. DESIGN CHOICE of form (log entry 5). Safe: nothing is known of its values. -/
opaque Config.ioExternalRead : Nat → Access → Word → Byte

/-- FREE VALUE: what the PPU reads at an address outside VRAM, which only the unchecked row of 60_exceptions.md R315
can name (a Y-flipped sprite whose size bit fell from 16 to 8 after the search). The spec states no result there.
DESIGN CHOICE (log entry 6). Safe: nothing is known of its values. -/
opaque Config.vramOutside : Nat → Int → Byte

end Sys2Proof
end

