-- ==== Sys2Proof/Machine/State.lean ====
section
/-! DEFINITION. The state of the machine as plain data (10_state.md, 20_memory.md), the state at reset (10_state.md R39)
and the reasons a step can stop. -/

namespace Sys2Proof.Machine

/-- The four PPU modes (10_state.md R37). -/
inductive Mode where
  | hBlank
  | vBlank
  | oamSearch
  | pixelTransfer
  deriving DecidableEq, Repr

/-- One entry of `oam_fifo`: "pixel carrying {color 0–3, palette-select, priority}" (60_exceptions.md R315). -/
structure OamPixel where
  colour : Colour
  palette : Bool
  priority : Bool
  deriving DecidableEq, Repr

/-- One entry of `visible`: an OAM index and the sprite's screen x, a signed integer (10_state.md R37). -/
structure VisibleSprite where
  index : Fin 40
  screenX : Int
  deriving DecidableEq, Repr

/-- An action of the host between two ticks (00_scope.md R6). `read_byte` and `frame_ready` only observe the state:
they are the functions `hostReadByte` and `frameReady`. -/
inductive HostAction where
  /-- `request_interrupt(source)`, 60_exceptions.md R262 -/
  | requestInterrupt (source : Fin 5)
  /-- `write_byte(addr, v)`, 20_memory.md R42 -/
  | writeByte (addr : Word) (v : Byte)
  deriving DecidableEq, Repr

/-- The CPU's registers and execution state (10_state.md R10 to R20). -/
structure Cpu where
  a : Byte
  /-- the flags byte: Z, N, H, C in bits 7, 6, 5, 4 (R11) -/
  f : Byte
  b : Byte
  c : Byte
  d : Byte
  e : Byte
  h : Byte
  l : Byte
  sp : Word
  pc : Word
  halted : Bool
  ime : Bool
  cyclesRemaining : Byte
  cbPrefixPending : Bool
  deriving DecidableEq, Repr

/-- The interrupt controller's two registers (10_state.md R22, R23). -/
structure Irq where
  /-- IF, 0xFF0F -/
  iflag : Byte
  /-- IE, 0xFFFF -/
  ie : Byte
  deriving DecidableEq, Repr

/-- The timer (10_state.md R25 to R29). -/
structure Timer where
  fullDiv : Word
  timerPrev : Bool
  tima : Byte
  tma : Byte
  tac : Byte
  deriving DecidableEq, Repr

/-- The PPU's registers and internal state (10_state.md R30 to R37). -/
structure Ppu where
  lcdc : Byte
  /-- `stat_en[6:3]`: bit 0 is the HBlank enable, 1 VBlank, 2 OamSearch, 3 LYC (R31) -/
  statEn : BitVec 4
  scy : Byte
  scx : Byte
  ly : Byte
  lyc : Byte
  bgp : Byte
  obp0 : Byte
  obp1 : Byte
  wy : Byte
  wx : Byte
  mode : Mode
  modeCycleCounter : Nat
  lineCycle : Nat
  windowLineInternal : Byte
  bgFifo : List Colour
  oamFifo : List OamPixel
  visible : List VisibleSprite
  drawX : Nat
  discardLeft : Nat
  fetchN : Nat
  windowActive : Bool
  statIrqLatched : Bool
  /-- the pulse of 60_exceptions.md R326 -/
  frameReady : Bool
  deriving DecidableEq, Repr

/-- The bytes of ROM, VRAM, work RAM, OAM and HRAM, each under its own address (the echo has none of its own), in the
canonical form `Memory.wf` of Machine/Memory.lean. -/
abbrev Memory := List Host.Cell

/-- The frame buffer (10_state.md R38): the shade of pixel x of row y under key 160 * y + x, in the same canonical form;
an unlisted pixel is 0. -/
abbrev FrameBuffer := List (Nat × Colour)

/-- The whole machine. -/
structure State where
  cpu : Cpu
  irq : Irq
  timer : Timer
  ppu : Ppu
  /-- ROM (as the host loaded it), VRAM, work RAM, OAM and HRAM -/
  mem : Memory
  /-- `BOOT_ROM`, absent or 256 bytes (20_memory.md R47) -/
  bootRom : Option Memory
  /-- the boot overlay flag (20_memory.md R47) -/
  bootOverlay : Bool
  frame : FrameBuffer
  params : Params
  /-- `SerialStep_env` for the coming ticks; past its end it never requests (00_scope.md R7). DESIGN CHOICE of form
  (log entry 7). Safe: a statement holds for every list. -/
  serialInput : List Bool
  /-- the host's actions after each coming tick; past its end there are none (00_scope.md R6). DESIGN CHOICE of form
  (log entry 8). Safe: a statement holds for every list. -/
  hostInput : List (List HostAction)
  /-- the model's own field: the number of the tick, to which the free values of Config are applied. DESIGN CHOICE
  (log entry 5). -/
  drawCount : Nat
  deriving DecidableEq, Repr

/-- Why the machine stops with a fault. -/
inductive Fault where
  /-- `DecodeFault(opcode, pc)`, the only fault of the machine (60_exceptions.md R240). Raised by the unassigned opcodes
  (46_misc_system.md R237) and by `STOP` when `STOP_BEHAVIOUR` is fault (R233). Safe: the spec ends the run there. -/
  | decodeFault (opcode : Byte) (pc : Word)
  deriving DecidableEq, Repr

/-- Why the model gives an instruction or a machine no meaning. -/
inductive Refusal where
  /-- Raised by an arm of exec whose instruction has no meaning yet. Safe: nothing is claimed of it. -/
  | notModelled (mnemonic : String)
  /-- Raised by step when `PIXEL_ITERS_PER_TICK` is below 2, which "is outside this spec (the model must refuse
  `PIXEL_ITERS_PER_TICK` < 2)" (60_exceptions.md R301). Safe: nothing is claimed of such a machine. -/
  | pixelRateBelowTwo
  deriving DecidableEq, Repr

/-- The CPU at reset (10_state.md R39). `cycles_remaining` is 1, so tick 1 is a fetch point
(70_reset_and_hazards.md R341). -/
def Cpu.reset : Cpu :=
  { a := 0x00, f := 0x00, b := 0x00, c := 0x00, d := 0x00, e := 0x00, h := 0x00, l := 0x00, sp := 0x0000, pc := 0x0000,
    halted := false, ime := false, cyclesRemaining := 1, cbPrefixPending := false }

/-- The PPU at reset: the start of line 0 (10_state.md R39). -/
def Ppu.reset : Ppu :=
  { lcdc := 0x00, statEn := 0, scy := 0x00, scx := 0x00, ly := 0x00, lyc := 0x00, bgp := 0x00, obp0 := 0x00,
    obp1 := 0x00, wy := 0x00, wx := 0x00, mode := .oamSearch, modeCycleCounter := 0, lineCycle := 0,
    windowLineInternal := 0x00, bgFifo := [], oamFifo := [], visible := [], drawX := 0, discardLeft := 0, fetchN := 0,
    windowActive := false, statIrqLatched := false, frameReady := false }

/-- The machine right after reset with the spec's parameters given (10_state.md R39, 00_scope.md section 4): the CPU
registers (`RESET_REGS`), ROM, BOOT_ROM and the parameters of a run. -/
def State.resetWith (cpu : Cpu) (rom : Memory) (bootRom : Option Memory) (params : Params) : State :=
  { cpu := cpu
    irq := { iflag := 0x00, ie := 0x00 }
    timer := { fullDiv := 0x0000, timerPrev := false, tima := 0x00, tma := 0x00, tac := 0x00 }
    ppu := Ppu.reset
    mem := rom
    bootRom := bootRom
    bootOverlay := true
    frame := []
    params := params
    serialInput := []
    hostInput := []
    drawCount := 0 }

/-- The machine right after reset, every parameter at its default: no ROM, no boot ROM (70_reset_and_hazards.md R340). -/
def State.reset : State := State.resetWith Cpu.reset [] none Params.default

end Sys2Proof.Machine
end

