-- ==== Sys2Proof/Machine/Flags.lean ====
section
/-! DEFINITION. The flags byte and every flag computation of the spec (10_state.md R11, R17, R18; 42_alu8.md;
43_alu16.md; 44_rotate_shift_bit.md). Arithmetic is on unbounded integers and narrowed where it is written, as in the
spec's pseudocode (00_scope.md section 6). -/

namespace Sys2Proof.Machine

/-- Z is F[7] (R11). -/
def Cpu.flagZ (c : Cpu) : Bool := c.f.getLsbD 7
/-- N is F[6] (R11). -/
def Cpu.flagN (c : Cpu) : Bool := c.f.getLsbD 6
/-- H is F[5] (R11), `Hf` in the spec's pseudocode. -/
def Cpu.flagH (c : Cpu) : Bool := c.f.getLsbD 5
/-- C is F[4] (R11), `Cf` in the spec's pseudocode. -/
def Cpu.flagC (c : Cpu) : Bool := c.f.getLsbD 4

/-- The F byte that holds four flags; its low nibble is 0 (R11, R18). -/
def packFlags (z n h c : Bool) : Byte :=
  BitVec.ofBool z ++ BitVec.ofBool n ++ BitVec.ofBool h ++ BitVec.ofBool c ++ (0 : BitVec 4)

/-- Write the four flags; "every write to F clears F[3:0]" (R18). A flag an instruction leaves unchanged is passed as
it is. -/
def Cpu.setFlags (cpu : Cpu) (z n h c : Bool) : Cpu := { cpu with f := packFlags z n h c }

/-- A byte result with the four flags that go with it. -/
structure AluResult where
  value : Byte
  z : Bool
  n : Bool
  h : Bool
  c : Bool
  deriving DecidableEq, Repr

/-- `Add8(a, b)` (42_alu8.md R130). -/
def add8 (a b : Byte) : AluResult :=
  let sum := a.toNat + b.toNat
  { value := BitVec.ofNat 8 sum, z := sum % 256 == 0, n := false
    h := decide (loNibble a + loNibble b > 0xF), c := decide (sum > 0xFF) }

/-- `Adc8(a, b, c)` (R131). -/
def adc8 (a b : Byte) (carry : Bool) : AluResult :=
  let sum := a.toNat + b.toNat + carry.toNat
  { value := BitVec.ofNat 8 sum, z := sum % 256 == 0, n := false
    h := decide (loNibble a + loNibble b + carry.toNat > 0xF), c := decide (sum > 0xFF) }

/-- `Sub8(a, b)` (R132). -/
def sub8 (a b : Byte) : AluResult :=
  let diff : Int := a.toNat - b.toNat
  { value := BitVec.ofInt 8 diff, z := diff % 256 == 0, n := true
    h := decide (loNibble a < loNibble b), c := decide (a.toNat < b.toNat) }

/-- `Sbc8(a, b, c)` (R133). -/
def sbc8 (a b : Byte) (carry : Bool) : AluResult :=
  let diff : Int := a.toNat - b.toNat - carry.toNat
  { value := BitVec.ofInt 8 diff, z := diff % 256 == 0, n := true
    h := decide ((loNibble a : Int) - loNibble b - carry.toNat < 0), c := decide (diff < 0) }

/-- `And8(a, b)` (R135). -/
def and8 (a b : Byte) : AluResult := { value := a &&& b, z := a &&& b == 0, n := false, h := true, c := false }

/-- `Xor8(a, b)` (R136). -/
def xor8 (a b : Byte) : AluResult := { value := a ^^^ b, z := a ^^^ b == 0, n := false, h := false, c := false }

/-- `Or8(a, b)` (R137). -/
def or8 (a b : Byte) : AluResult := { value := a ||| b, z := a ||| b == 0, n := false, h := false, c := false }

/-- The eight operations on A, the old A, the operand and the old carry (R130 to R137). `CP` is `Sub8` "without the
write to A" (R134). -/
def aluResult (op : AluOp) (a b : Byte) (carry : Bool) : AluResult :=
  match op with
  | .add => add8 a b
  | .adc => adc8 a b carry
  | .sub => sub8 a b
  | .sbc => sbc8 a b carry
  | .and => and8 a b
  | .xor => xor8 a b
  | .or => or8 a b
  | .cp => { sub8 a b with value := a }

/-- `INC` of a byte: C is passed through, "INC/DEC 8-bit never touch C" (R162). -/
def inc8 (v : Byte) (carry : Bool) : AluResult :=
  { value := BitVec.ofNat 8 (v.toNat + 1), z := (v.toNat + 1) % 256 == 0, n := false, h := loNibble v == 0xF
    c := carry }

/-- `DEC` of a byte (R164). -/
def dec8 (v : Byte) (carry : Bool) : AluResult :=
  { value := BitVec.ofInt 8 ((v.toNat : Int) - 1), z := ((v.toNat : Int) - 1) % 256 == 0, n := true
    h := loNibble v == 0x0, c := carry }

/-- `DAA` on A and the flags N, H, C (R166): the add side looks at A only when N = 0. -/
def daa8 (a : Byte) (n h c : Bool) : AluResult :=
  let low : Bool := h || (!n && decide (loNibble a > 9))
  let high : Bool := c || (!n && decide (a.toNat > 0x99))
  let adj : Nat := (if low then 0x06 else 0) + (if high then 0x60 else 0)
  let value : Byte := if n then BitVec.ofInt 8 ((a.toNat : Int) - adj) else BitVec.ofNat 8 (a.toNat + adj)
  { value := value, z := value == 0, n := n, h := false, c := high }

/-- The eight operations of the CB table's first group: result and carry out of the table of 44_rotate_shift_bit.md
section 2, with its common flag rule. -/
def rotResult (op : RotOp) (v : Byte) (carry : Bool) : AluResult :=
  let top : Bool := v.getLsbD 7
  let bottom : Bool := v.getLsbD 0
  let out (w : Byte) (c : Bool) : AluResult := { value := w, z := w == 0, n := false, h := false, c := c }
  match op with
  | .rlc => out (BitVec.ofNat 8 (2 * v.toNat + top.toNat)) top
  | .rrc => out (BitVec.ofNat 8 (v.toNat / 2 + 128 * bottom.toNat)) bottom
  | .rl => out (BitVec.ofNat 8 (2 * v.toNat + carry.toNat)) top
  | .rr => out (BitVec.ofNat 8 (v.toNat / 2 + 128 * carry.toNat)) bottom
  | .sla => out (BitVec.ofNat 8 (2 * v.toNat)) top
  | .sra => out (BitVec.ofNat 8 (v.toNat / 2 + 128 * top.toNat)) bottom
  | .swap => out (BitVec.ofNat 8 (16 * v.toNat + v.toNat / 16)) false
  | .srl => out (BitVec.ofNat 8 (v.toNat / 2)) bottom

/-- The accumulator rotates: as their CB-table counterparts but "clearing Z unconditionally" (R180 to R183). -/
def rotAResult (op : RotOp) (a : Byte) (carry : Bool) : AluResult := { rotResult op a carry with z := false }

/-- `BIT b,x`: Z is the complement of the tested bit, N = 0, H = 1, C unchanged (R200). -/
def Cpu.testBit (cpu : Cpu) (b : Fin 8) (v : Byte) : Cpu := cpu.setFlags (!v.getLsbD b) false true cpu.flagC

/-- `v & ~(1 << b)` (R202). -/
def clearBit (b : Fin 8) (v : Byte) : Byte := v &&& ~~~((1 : Byte) <<< b.val)

/-- `v | (1 << b)` (R204). -/
def raiseBit (b : Fin 8) (v : Byte) : Byte := v ||| ((1 : Byte) <<< b.val)

/-- A 16-bit sum with the flags H and C that go with it. -/
structure Sum16 where
  value : Word
  h : Bool
  c : Bool
  deriving DecidableEq, Repr

/-- `ADD HL,rr`: H from bit 11, C from bit 15 (43_alu16.md R170). -/
def addHl16 (a b : Word) : Sum16 :=
  let sum := a.toNat + b.toNat
  { value := BitVec.ofNat 16 sum, h := decide (a.toNat % 0x1000 + b.toNat % 0x1000 > 0xFFF), c := decide (sum > 0xFFFF) }

/-- SP plus a signed displacement, H and C "of the unsigned addition of SP's low byte and the raw byte"
(41_load16.md R123, 43_alu16.md R173). -/
def addSp16 (sp : Word) (e : Byte) : Sum16 :=
  { value := sp + sext16 e, h := decide (sp.toNat % 16 + loNibble e > 0xF)
    c := decide (sp.toNat % 256 + e.toNat > 0xFF) }

end Sys2Proof.Machine
end

