-- ==== Sys2Proof/Machine/Memory.lean ====
section
/-! DEFINITION. The memory map: cell lists in canonical form, the regions, the I/O page and the access primitives
`MemRead` and `MemWrite` (20_memory.md). -/

namespace Sys2Proof.Machine

/-! Cell lists. A list of (key, value) pairs stands for the function that reads a listed key as its value and any other
key as `unlisted` says. -/

/-- The value under a key. -/
def readCells {w : Nat} (unlisted : Nat → BitVec w) : List (Nat × BitVec w) → Nat → BitVec w
  | [], k => unlisted k
  | (k', v) :: rest, k => if k = k' then v else readCells unlisted rest k

/-- The list without a key. -/
def eraseCell {w : Nat} (cells : List (Nat × BitVec w)) (k : Nat) : List (Nat × BitVec w) :=
  cells.filter (fun cell => cell.1 != k)

/-- A new pair, put before the first greater key. -/
def insertCell {w : Nat} (k : Nat) (v : BitVec w) : List (Nat × BitVec w) → List (Nat × BitVec w)
  | [] => [(k, v)]
  | (k', v') :: rest => if k < k' then (k, v) :: (k', v') :: rest else (k', v') :: insertCell k v rest

/-- Store a value under a key. Storing what an unlisted key reads as removes the pair, so equal contents are equal
lists. -/
def writeCells {w : Nat} (unlisted : Nat → BitVec w) (cells : List (Nat × BitVec w)) (k : Nat) (v : BitVec w) :
    List (Nat × BitVec w) :=
  if v = unlisted k then eraseCell cells k else insertCell k v (eraseCell cells k)

/-- The canonical form: keys strictly rising, every key one that `stored` allows, no value equal to what an unlisted key
reads as. -/
abbrev wfCells {w : Nat} (unlisted : Nat → BitVec w) (stored : Nat → Bool) (cells : List (Nat × BitVec w)) : Prop :=
  cells.Pairwise (fun x y => x.1 < y.1) ∧ ∀ cell ∈ cells, stored cell.1 = true ∧ cell.2 ≠ unlisted cell.1

/-- What an unlisted address of `Memory` reads as: 0xFF in ROM, "`ROM[addr]` if `ROM` is present, else 0xFF"
(20_memory.md R41); 0x00 in RAM, the reset contents (10_state.md R39). DESIGN CHOICE of form (log entry 3). Unsafe of
RAM after power-on, which the spec zeroes by a decision of its own (92_eei_decisions.md D7). -/
def unlistedByte (k : Nat) : Byte := if k < 0x8000 then 0xFF else 0x00

/-- The addresses that hold a byte of their own: ROM, VRAM, work RAM, OAM, HRAM (20_memory.md section 4). -/
def storedAddress (k : Nat) : Bool :=
  decide (k < 0xA000) || (decide (0xC000 ≤ k) && decide (k < 0xE000)) || (decide (0xFE00 ≤ k) && decide (k < 0xFEA0))
    || (decide (0xFF80 ≤ k) && decide (k < 0xFFFF))

def readByte (m : Memory) (k : Nat) : Byte := readCells unlistedByte m k
def writeByte (m : Memory) (k : Nat) (v : Byte) : Memory := writeCells unlistedByte m k v

/-- The canonical form of `State.mem`. -/
abbrev Memory.wf (m : Memory) : Prop := wfCells unlistedByte storedAddress m

/-- The canonical form of a boot ROM: 256 bytes (20_memory.md R47). -/
abbrev bootRomWf (m : Memory) : Prop := wfCells unlistedByte (fun k => decide (k < 0x100)) m

/-- The key of a pixel of the frame buffer (10_state.md R38). -/
def pixelKey (x y : Nat) : Nat := 160 * y + x

/-- `fb[y][x]`. -/
def readPixel (fb : FrameBuffer) (x y : Nat) : Colour := readCells (fun _ => 0) fb (pixelKey x y)

/-- `fb[y][x] <- shade`. -/
def writePixel (fb : FrameBuffer) (x y : Nat) (shade : Colour) : FrameBuffer :=
  writeCells (fun _ => 0) fb (pixelKey x y) shade

/-- The canonical form of the frame buffer: 144 rows of 160 pixels. -/
abbrev frameWf (fb : FrameBuffer) : Prop := wfCells (fun _ => 0) (fun k => decide (k < 23040)) fb

/-! Regions. -/

/-- The rows of the access tables of 20_memory.md R41 and R42. -/
inductive Region where
  | rom
  | vram
  | extRam
  | wram
  | echo
  | oam
  | gap
  | io
  | hram
  | ie
  deriving DecidableEq, Repr

/-- The region of an address, "by the first matching row" (R41). -/
def regionOf (addr : Word) : Region :=
  let n := addr.toNat
  if n < 0x8000 then .rom
  else if n < 0xA000 then .vram
  else if n < 0xC000 then .extRam
  else if n < 0xE000 then .wram
  else if n < 0xFE00 then .echo
  else if n < 0xFEA0 then .oam
  else if n < 0xFF00 then .gap
  else if n < 0xFF80 then .io
  else if n < 0xFFFF then .hram
  else .ie

/-- The key under which a byte of RAM or ROM is kept: the echo "reads and writes the same bytes as `addr - 0x2000`"
(R50). -/
def cellKey (addr : Word) : Nat :=
  match regionOf addr with
  | .echo => addr.toNat - 0x2000
  | _ => addr.toNat

/-- VRAM is "inaccessible to CPU during Pixel-Transfer mode" (R48). -/
def Mode.closesVram : Mode → Bool
  | .pixelTransfer => true
  | _ => false

/-- OAM is "inaccessible to CPU during OAM-Search and Pixel-Transfer" (R51). -/
def Mode.closesOam : Mode → Bool
  | .oamSearch => true
  | .pixelTransfer => true
  | _ => false

/-- STAT[1:0] (10_state.md R31). -/
def Mode.number : Mode → BitVec 2
  | .hBlank => 0
  | .vBlank => 1
  | .oamSearch => 2
  | .pixelTransfer => 3

/-! The I/O page. -/

/-- The I/O registers of this core (R52, R53). `bootOff` is 0xFF50, which has a write effect and no read row. -/
inductive IoReg where
  | div
  | tima
  | tma
  | tac
  | iflag
  | lcdc
  | stat
  | scy
  | scx
  | ly
  | lyc
  | bgp
  | obp0
  | obp1
  | wy
  | wx
  | bootOff
  deriving DecidableEq, Repr

/-- The addresses of R52 and R53. -/
def ioTable : List (Nat × IoReg) :=
  [(0xFF04, .div), (0xFF05, .tima), (0xFF06, .tma), (0xFF07, .tac), (0xFF0F, .iflag), (0xFF40, .lcdc), (0xFF41, .stat),
    (0xFF42, .scy), (0xFF43, .scx), (0xFF44, .ly), (0xFF45, .lyc), (0xFF47, .bgp), (0xFF48, .obp0), (0xFF49, .obp1),
    (0xFF4A, .wy), (0xFF4B, .wx), (0xFF50, .bootOff)]

/-- The I/O register at an address, none if the address is unlisted (R55). -/
def ioRegAt (addr : Word) : Option IoReg := ioTable.lookup addr.toNat

/-- The byte a read of STAT returns: `{0, stat_en[6:3], (LY = LYC), mode[1:0]}` (R52, 10_state.md R31). -/
def statByte (p : Ppu) : Byte := BitVec.ofBool false ++ p.statEn ++ BitVec.ofBool (p.ly == p.lyc) ++ p.mode.number

/-- `IoRead(addr)` (R52): a listed register's byte, a draw for any other address (R55). -/
def ioRead (access : Access) (s : State) (addr : Word) : Byte :=
  match ioRegAt addr with
  | some .div => hiByte s.timer.fullDiv
  | some .tima => s.timer.tima
  | some .tma => s.timer.tma
  | some .tac => s.timer.tac
  | some .iflag => s.irq.iflag
  | some .lcdc => s.ppu.lcdc
  | some .stat => statByte s.ppu
  | some .scy => s.ppu.scy
  | some .scx => s.ppu.scx
  | some .ly => s.ppu.ly
  | some .lyc => s.ppu.lyc
  | some .bgp => s.ppu.bgp
  | some .obp0 => s.ppu.obp0
  | some .obp1 => s.ppu.obp1
  | some .wy => s.ppu.wy
  | some .wx => s.ppu.wx
  | some .bootOff => Config.ioExternalRead s.drawCount access addr
  | none => Config.ioExternalRead s.drawCount access addr

/-- `IoWrite(addr, v)` (R53): a write to an unlisted address changes nothing (R55). -/
def ioWrite (s : State) (addr : Word) (v : Byte) : State :=
  match ioRegAt addr with
  | some .div => { s with timer := { s.timer with fullDiv := 0 } }
  | some .tima => { s with timer := { s.timer with tima := v } }
  | some .tma => { s with timer := { s.timer with tma := v } }
  | some .tac => { s with timer := { s.timer with tac := v } }
  | some .iflag => { s with irq := { s.irq with iflag := v } }
  | some .lcdc => { s with ppu := { s.ppu with lcdc := v } }
  | some .stat => { s with ppu := { s.ppu with statEn := v.extractLsb' 3 4 } }
  | some .scy => { s with ppu := { s.ppu with scy := v } }
  | some .scx => { s with ppu := { s.ppu with scx := v } }
  | some .ly => s
  | some .lyc => { s with ppu := { s.ppu with lyc := v } }
  | some .bgp => { s with ppu := { s.ppu with bgp := v } }
  | some .obp0 => { s with ppu := { s.ppu with obp0 := v } }
  | some .obp1 => { s with ppu := { s.ppu with obp1 := v } }
  | some .wy => { s with ppu := { s.ppu with wy := v } }
  | some .wx => { s with ppu := { s.ppu with wx := v } }
  | some .bootOff => { s with bootOverlay := false }
  | none => s

/-! The access primitives. -/

/-- Store a byte in `State.mem`. -/
def State.storeCell (s : State) (addr : Word) (v : Byte) : State :=
  { s with mem := writeByte s.mem (cellKey addr) v }

/-- A read of 0x0000 to 0x7FFF: the boot overlay while it is enabled and present, else ROM (R41, R45, R47). -/
def romRead (s : State) (addr : Word) : Byte :=
  match s.bootRom with
  | some boot => if s.bootOverlay = true ∧ addr.toNat < 0x100 then readByte boot addr.toNat else readByte s.mem addr.toNat
  | none => readByte s.mem addr.toNat

/-- `MemRead(addr, 1)` (R41). "A read changes no state". -/
def memRead (access : Access) (s : State) (addr : Word) : Byte :=
  match regionOf addr with
  | .rom => romRead s addr
  | .vram => if s.ppu.mode.closesVram then 0xFF else readByte s.mem (cellKey addr)
  | .extRam => 0xFF
  | .wram => readByte s.mem (cellKey addr)
  | .echo => readByte s.mem (cellKey addr)
  | .oam => if s.ppu.mode.closesOam then 0xFF else readByte s.mem (cellKey addr)
  | .gap => 0xFF
  | .io => ioRead access s addr
  | .hram => readByte s.mem (cellKey addr)
  | .ie => s.irq.ie

/-- `MemWrite(addr, 1, v)` (R42). With no bank controller installed a write to ROM changes nothing (R46). -/
def memWrite (s : State) (addr : Word) (v : Byte) : State :=
  match regionOf addr with
  | .rom => s
  | .vram => if s.ppu.mode.closesVram then s else s.storeCell addr v
  | .extRam => s
  | .wram => s.storeCell addr v
  | .echo => s.storeCell addr v
  | .oam => if s.ppu.mode.closesOam then s else s.storeCell addr v
  | .gap => s
  | .io => ioWrite s addr v
  | .hram => s.storeCell addr v
  | .ie => { s with irq := { s.irq with ie := v } }

/-- `MemRead(addr, 2)`: the byte at the lower address is bits 7:0 (R43). -/
def memRead16 (access : Access) (s : State) (addr : Word) : Word :=
  joinBytes (memRead access s (addr + 1)) (memRead access s addr)

/-- `MemWrite(addr, 2, v)`: the low byte first (R43). -/
def memWrite16 (s : State) (addr : Word) (v : Word) : State :=
  memWrite (memWrite s addr (loByte v)) (addr + 1) (hiByte v)

end Sys2Proof.Machine
end

