-- ==== Sys2Proof/Machine/Ops.lean ====
section
/-! DEFINITION. The named operations over registers, the stack, the interrupt controller and the program counter;
taking an interrupt and returning from one (41_load16.md R125, R126; 60_exceptions.md R252 to R264). -/

namespace Sys2Proof.Machine

/-- What a meaning answers. -/
abbrev Result := Host.Outcome State Fault Refusal

/-! Register pairs (10_state.md R12). -/

def Cpu.bc (c : Cpu) : Word := joinBytes c.b c.c
def Cpu.de (c : Cpu) : Word := joinBytes c.d c.e
def Cpu.hl (c : Cpu) : Word := joinBytes c.h c.l
def Cpu.af (c : Cpu) : Word := joinBytes c.a c.f

def Cpu.setBc (c : Cpu) (v : Word) : Cpu := { c with b := hiByte v, c := loByte v }
def Cpu.setDe (c : Cpu) (v : Word) : Cpu := { c with d := hiByte v, e := loByte v }
def Cpu.setHl (c : Cpu) (v : Word) : Cpu := { c with h := hiByte v, l := loByte v }

/-- "Writing `AF <- v` writes `A <- v[15:8]` and `F <- v[7:0] & 0xF0`" (R12, R18). -/
def Cpu.setAf (c : Cpu) (v : Word) : Cpu := { c with a := hiByte v, f := loByte v &&& 0xF0 }

/-! Updates of the state. -/

def State.setCpu (s : State) (c : Cpu) : State := { s with cpu := c }
def State.setA (s : State) (v : Byte) : State := { s with cpu := { s.cpu with a := v } }
def State.setHl (s : State) (v : Word) : State := { s with cpu := s.cpu.setHl v }
def State.setSp (s : State) (v : Word) : State := { s with cpu := { s.cpu with sp := v } }
def State.setIme (s : State) (v : Bool) : State := { s with cpu := { s.cpu with ime := v } }
def State.setHalted (s : State) (v : Bool) : State := { s with cpu := { s.cpu with halted := v } }
def State.setCbPending (s : State) (v : Bool) : State := { s with cpu := { s.cpu with cbPrefixPending := v } }
def State.setCycles (s : State) (v : Byte) : State := { s with cpu := { s.cpu with cyclesRemaining := v } }
def State.setPc (s : State) (v : Word) : State := { s with cpu := { s.cpu with pc := v } }
def State.setIf (s : State) (v : Byte) : State := { s with irq := { s.irq with iflag := v } }

/-- `A` and the flags from a result. -/
def State.putAlu (s : State) (r : AluResult) : State :=
  { s with cpu := { s.cpu with a := r.value }.setFlags r.z r.n r.h r.c }

/-- The flags of a result alone. -/
def State.putFlags (s : State) (r : AluResult) : State := { s with cpu := s.cpu.setFlags r.z r.n r.h r.c }

/-- The four flags, each as given (10_state.md R17). -/
def State.setFlags (s : State) (z n h c : Bool) : State := { s with cpu := s.cpu.setFlags z n h c }

/-- `PC <- target; cost <- n` of an instruction that sets PC itself (30_encoding.md R72). -/
def State.goTo (s : State) (target : Word) (cost : Byte) : State :=
  { s with cpu := { s.cpu with pc := target, cyclesRemaining := cost } }

/-- `PC <- PC + len; cost <- n` (30_encoding.md R72; PC arithmetic is modulo 2^16, 10_state.md R16). -/
def State.retire (s : State) (len : Word) (cost : Byte) : State := s.goTo (s.cpu.pc + len) cost

/-! The stack. -/

/-- `Push16(v)`: SP is decremented before the store (41_load16.md R125). -/
def State.push16 (s : State) (v : Word) : State := memWrite16 (s.setSp (s.cpu.sp - 2)) (s.cpu.sp - 2) v

/-- The value `Pop16()` returns (41_load16.md R126). -/
def State.stackTop (s : State) : Word := memRead16 .data s s.cpu.sp

/-- The state after `Pop16()`: "SP <- (SP + 2) mod 2^16" (41_load16.md R126). -/
def State.popped (s : State) : State := s.setSp (s.cpu.sp + 2)

/-! The interrupt controller. -/

/-- `Request(i)`: "IF <- IF | (1 << i)" (60_exceptions.md R262). -/
def State.request (s : State) (source : Fin 5) : State := s.setIf (s.irq.iflag ||| ((1 : Byte) <<< source.val))

/-- `Pending()`: "IE & IF & 0x1F" (R263). -/
def State.pending (s : State) : Byte := s.irq.ie &&& s.irq.iflag &&& 0x1F

/-- The least source whose bit is set (R264). It is read only where some bit of 4:0 is. -/
def highestPriority (p : Byte) : Fin 5 :=
  if p.getLsbD 0 then 0
  else if p.getLsbD 1 then 1
  else if p.getLsbD 2 then 2
  else if p.getLsbD 3 then 3
  else 4

/-- `Vector(i) = 0x0040 + 8 * i` (R253). -/
def vectorOf (source : Fin 5) : Word := BitVec.ofNat 16 (0x0040 + 8 * source.val)

/-- TAKING AN INTERRUPT (`Service`, R252), for a given source: `ime` and the IF bit cleared, PC pushed, PC at the vector,
`cycles_remaining` 5, `halted` cleared. `cb_prefix_pending` is not touched (R256). -/
def State.takeInterrupt (s : State) (source : Fin 5) : State :=
  let s1 := (s.setIme false).setIf (s.irq.iflag &&& ~~~((1 : Byte) <<< source.val))
  ((s1.push16 s.cpu.pc).goTo (vectorOf source) 5).setHalted false

/-- `Service()`: the highest-priority pending source (R252, R264). -/
def State.service (s : State) : State := s.takeInterrupt (highestPriority s.pending)

/-- THE RETURN (R270, 45_control.md R219): PC from the stack and `ime` set, "that is the whole restore". -/
def State.returnFromInterrupt (s : State) (cost : Byte) : State := (s.popped.goTo s.stackTop cost).setIme true

end Sys2Proof.Machine
end

