-- ==== Sys2Proof/Machine/Operands.lean ====
section
/-! DEFINITION. Every operand form of the spec: the register field (10_state.md R13), the pair fields (R14), the
condition field (R19), the byte at HL (R13, index 6) and the high page (30_encoding.md R73). -/

namespace Sys2Proof.Machine

/-- `r8[i]` of a register (10_state.md R13). -/
def Cpu.reg (c : Cpu) : Reg8 → Byte
  | .b => c.b
  | .c => c.c
  | .d => c.d
  | .e => c.e
  | .h => c.h
  | .l => c.l
  | .a => c.a

/-- `r8[i] <- v` of a register (R13). -/
def Cpu.setReg (c : Cpu) (r : Reg8) (v : Byte) : Cpu :=
  match r with
  | .b => { c with b := v }
  | .c => { c with c := v }
  | .d => { c with d := v }
  | .e => { c with e := v }
  | .h => { c with h := v }
  | .l => { c with l := v }
  | .a => { c with a := v }

/-- `rr[p]` (R14). -/
def Cpu.pair (c : Cpu) : Pair → Word
  | .bc => c.bc
  | .de => c.de
  | .hl => c.hl
  | .sp => c.sp

/-- `rr[p] <- v` (R14). -/
def Cpu.setPair (c : Cpu) (p : Pair) (v : Word) : Cpu :=
  match p with
  | .bc => c.setBc v
  | .de => c.setDe v
  | .hl => c.setHl v
  | .sp => { c with sp := v }

/-- `rr2[p]` (R14). -/
def Cpu.stackPair (c : Cpu) : StackPair → Word
  | .bc => c.bc
  | .de => c.de
  | .hl => c.hl
  | .af => c.af

/-- `rr2[p] <- v` (R14). -/
def Cpu.setStackPair (c : Cpu) (p : StackPair) (v : Word) : Cpu :=
  match p with
  | .bc => c.setBc v
  | .de => c.setDe v
  | .hl => c.setHl v
  | .af => c.setAf v

/-- `cc[c]` (R19). -/
def Cpu.holds (cpu : Cpu) : Cond → Bool
  | .nz => !cpu.flagZ
  | .z => cpu.flagZ
  | .nc => !cpu.flagC
  | .c => cpu.flagC

def State.reg (s : State) (r : Reg8) : Byte := s.cpu.reg r
def State.setReg (s : State) (r : Reg8) (v : Byte) : State := s.setCpu (s.cpu.setReg r v)
def State.setPair (s : State) (p : Pair) (v : Word) : State := s.setCpu (s.cpu.setPair p v)

def State.setStackPair (s : State) (p : StackPair) (v : Word) : State := s.setCpu (s.cpu.setStackPair p v)

/-- `MemRead(addr, 1)` as an instruction's data read. -/
def State.load (s : State) (addr : Word) : Byte := memRead .data s addr

/-- `r8[6]` read: "`MemRead(HL, 1)`" (R13). -/
def State.loadHl (s : State) : Byte := s.load s.cpu.hl

/-- `r8[6]` written: "`MemWrite(HL, 1, v)`" (R13). -/
def State.storeHl (s : State) (v : Byte) : State := memWrite s s.cpu.hl v

/-- The address `0xFF00 + offset` of the high page (30_encoding.md R73). -/
def highPage (offset : Byte) : Word := 0xFF00 + zext16 offset

/-- The target of `JR`: "relative to the address of the byte after the instruction" (45_control.md R213). -/
def State.relative (s : State) (e : Byte) : Word := s.cpu.pc + 2 + sext16 e

end Sys2Proof.Machine
end

