-- ==== Sys2Proof/Machine/Alu16.lean ====
section
/-! DEFINITION. The meanings of 16-bit arithmetic (43_alu16.md). -/

namespace Sys2Proof.Machine

/-- `ADD HL,rr`: Z unchanged (R170). -/
def addHlPair (p : Pair) (s : State) : Result :=
  let r := addHl16 s.cpu.hl (s.cpu.pair p)
  .next (((s.setHl r.value).setFlags s.cpu.flagZ false r.h r.c).retire 1 2)

/-- `INC rr`: no flag (R171). -/
def incPair (p : Pair) (s : State) : Result := .next ((s.setPair p (s.cpu.pair p + 1)).retire 1 2)

/-- `DEC rr`: no flag (R172). -/
def decPair (p : Pair) (s : State) : Result := .next ((s.setPair p (s.cpu.pair p - 1)).retire 1 2)

/-- `ADD SP,e`: the flags use the old SP (R173). -/
def addSp (e : Byte) (s : State) : Result :=
  let r := addSp16 s.cpu.sp e
  .next (((s.setSp r.value).setFlags false false r.h r.c).retire 2 4)

/-- `INC BC`, 0x03 (R171). -/
def exec_inc_bc (s : State) : Result := incPair .bc s
/-- `ADD HL,BC`, 0x09 (R170). -/
def exec_add_hl_bc (s : State) : Result := addHlPair .bc s
/-- `DEC BC`, 0x0B (R172). -/
def exec_dec_bc (s : State) : Result := decPair .bc s
/-- `INC DE`, 0x13 (R171). -/
def exec_inc_de (s : State) : Result := incPair .de s
/-- `ADD HL,DE`, 0x19 (R170). -/
def exec_add_hl_de (s : State) : Result := addHlPair .de s
/-- `DEC DE`, 0x1B (R172). -/
def exec_dec_de (s : State) : Result := decPair .de s
/-- `INC HL`, 0x23 (R171). -/
def exec_inc_hl (s : State) : Result := incPair .hl s
/-- `ADD HL,HL`, 0x29 (R170). -/
def exec_add_hl_hl (s : State) : Result := addHlPair .hl s
/-- `DEC HL`, 0x2B (R172). -/
def exec_dec_hl (s : State) : Result := decPair .hl s
/-- `INC SP`, 0x33 (R171). -/
def exec_inc_sp (s : State) : Result := incPair .sp s
/-- `ADD HL,SP`, 0x39 (R170). -/
def exec_add_hl_sp (s : State) : Result := addHlPair .sp s
/-- `DEC SP`, 0x3B (R172). -/
def exec_dec_sp (s : State) : Result := decPair .sp s
/-- `ADD SP,e`, 0xE8 (R173). -/
def exec_add_sp_e (e : Byte) (s : State) : Result := addSp e s

end Sys2Proof.Machine
end

