-- ==== Sys2Proof/Machine/Alu8.lean ====
section
/-! DEFINITION. The meanings of 8-bit arithmetic and logic (42_alu8.md). -/

namespace Sys2Proof.Machine

/-- An ALU operation with a register; "when `r` is A the second operand is the old A" (42_alu8.md section 2). -/
def aluReg (op : AluOp) (r : Reg8) (s : State) : Result :=
  .next ((s.putAlu (aluResult op s.cpu.a (s.reg r) s.cpu.flagC)).retire 1 1)

/-- An ALU operation with the byte at HL. -/
def aluHl (op : AluOp) (s : State) : Result :=
  .next ((s.putAlu (aluResult op s.cpu.a s.loadHl s.cpu.flagC)).retire 1 2)

/-- An ALU operation with an immediate. -/
def aluImm (op : AluOp) (n : Byte) (s : State) : Result :=
  .next ((s.putAlu (aluResult op s.cpu.a n s.cpu.flagC)).retire 2 2)

/-- Write a register and the flags of a result. -/
def State.putReg (s : State) (r : Reg8) (res : AluResult) : State := (s.setReg r res.value).putFlags res

/-- Write the byte at HL and the flags of a result. -/
def State.putHl (s : State) (res : AluResult) : State := (s.storeHl res.value).putFlags res

/-- `INC r` (R162). -/
def incReg (r : Reg8) (s : State) : Result := .next ((s.putReg r (inc8 (s.reg r) s.cpu.flagC)).retire 1 1)

/-- `INC (HL)` (R163). -/
def incHl (s : State) : Result := .next ((s.putHl (inc8 s.loadHl s.cpu.flagC)).retire 1 3)

/-- `DEC r` (R164). -/
def decReg (r : Reg8) (s : State) : Result := .next ((s.putReg r (dec8 (s.reg r) s.cpu.flagC)).retire 1 1)

/-- `DEC (HL)` (R165). -/
def decHl (s : State) : Result := .next ((s.putHl (dec8 s.loadHl s.cpu.flagC)).retire 1 3)

/-- `DAA` (R166). -/
def daa (s : State) : Result :=
  .next ((s.putAlu (daa8 s.cpu.a s.cpu.flagN s.cpu.flagH s.cpu.flagC)).retire 1 1)

/-- `CPL`: Z and C unchanged (R167). -/
def cpl (s : State) : Result :=
  .next (((s.setA (s.cpu.a ^^^ 0xFF)).setFlags s.cpu.flagZ true true s.cpu.flagC).retire 1 1)

/-- `SCF`: Z unchanged (R168). -/
def scf (s : State) : Result := .next ((s.setFlags s.cpu.flagZ false false true).retire 1 1)

/-- `CCF`: Z unchanged (R169). -/
def ccf (s : State) : Result := .next ((s.setFlags s.cpu.flagZ false false (!s.cpu.flagC)).retire 1 1)

/-- `INC B`, 0x04 (R162). -/
def exec_inc_b (s : State) : Result := incReg .b s
/-- `DEC B`, 0x05 (R164). -/
def exec_dec_b (s : State) : Result := decReg .b s
/-- `INC C`, 0x0C (R162). -/
def exec_inc_c (s : State) : Result := incReg .c s
/-- `DEC C`, 0x0D (R164). -/
def exec_dec_c (s : State) : Result := decReg .c s
/-- `INC D`, 0x14 (R162). -/
def exec_inc_d (s : State) : Result := incReg .d s
/-- `DEC D`, 0x15 (R164). -/
def exec_dec_d (s : State) : Result := decReg .d s
/-- `INC E`, 0x1C (R162). -/
def exec_inc_e (s : State) : Result := incReg .e s
/-- `DEC E`, 0x1D (R164). -/
def exec_dec_e (s : State) : Result := decReg .e s
/-- `INC H`, 0x24 (R162). -/
def exec_inc_h (s : State) : Result := incReg .h s
/-- `DEC H`, 0x25 (R164). -/
def exec_dec_h (s : State) : Result := decReg .h s
/-- `DAA`, 0x27 (R166). -/
def exec_daa (s : State) : Result := daa s
/-- `INC L`, 0x2C (R162). -/
def exec_inc_l (s : State) : Result := incReg .l s
/-- `DEC L`, 0x2D (R164). -/
def exec_dec_l (s : State) : Result := decReg .l s
/-- `CPL`, 0x2F (R167). -/
def exec_cpl (s : State) : Result := cpl s
/-- `INC (HL)`, 0x34 (R163). -/
def exec_inc_atHl (s : State) : Result := incHl s
/-- `DEC (HL)`, 0x35 (R165). -/
def exec_dec_atHl (s : State) : Result := decHl s
/-- `SCF`, 0x37 (R168). -/
def exec_scf (s : State) : Result := scf s
/-- `INC A`, 0x3C (R162). -/
def exec_inc_a (s : State) : Result := incReg .a s
/-- `DEC A`, 0x3D (R164). -/
def exec_dec_a (s : State) : Result := decReg .a s
/-- `CCF`, 0x3F (R169). -/
def exec_ccf (s : State) : Result := ccf s
/-- `ADD A,B`, 0x80 (R138). -/
def exec_add_a_b (s : State) : Result := aluReg .add .b s
/-- `ADD A,C`, 0x81 (R138). -/
def exec_add_a_c (s : State) : Result := aluReg .add .c s
/-- `ADD A,D`, 0x82 (R138). -/
def exec_add_a_d (s : State) : Result := aluReg .add .d s
/-- `ADD A,E`, 0x83 (R138). -/
def exec_add_a_e (s : State) : Result := aluReg .add .e s
/-- `ADD A,H`, 0x84 (R138). -/
def exec_add_a_h (s : State) : Result := aluReg .add .h s
/-- `ADD A,L`, 0x85 (R138). -/
def exec_add_a_l (s : State) : Result := aluReg .add .l s
/-- `ADD A,(HL)`, 0x86 (R139). -/
def exec_add_a_atHl (s : State) : Result := aluHl .add s
/-- `ADD A,A`, 0x87 (R138). -/
def exec_add_a_a (s : State) : Result := aluReg .add .a s
/-- `ADC A,B`, 0x88 (R141). -/
def exec_adc_a_b (s : State) : Result := aluReg .adc .b s
/-- `ADC A,C`, 0x89 (R141). -/
def exec_adc_a_c (s : State) : Result := aluReg .adc .c s
/-- `ADC A,D`, 0x8A (R141). -/
def exec_adc_a_d (s : State) : Result := aluReg .adc .d s
/-- `ADC A,E`, 0x8B (R141). -/
def exec_adc_a_e (s : State) : Result := aluReg .adc .e s
/-- `ADC A,H`, 0x8C (R141). -/
def exec_adc_a_h (s : State) : Result := aluReg .adc .h s
/-- `ADC A,L`, 0x8D (R141). -/
def exec_adc_a_l (s : State) : Result := aluReg .adc .l s
/-- `ADC A,(HL)`, 0x8E (R142). -/
def exec_adc_a_atHl (s : State) : Result := aluHl .adc s
/-- `ADC A,A`, 0x8F (R141). -/
def exec_adc_a_a (s : State) : Result := aluReg .adc .a s
/-- `SUB A,B`, 0x90 (R144). -/
def exec_sub_a_b (s : State) : Result := aluReg .sub .b s
/-- `SUB A,C`, 0x91 (R144). -/
def exec_sub_a_c (s : State) : Result := aluReg .sub .c s
/-- `SUB A,D`, 0x92 (R144). -/
def exec_sub_a_d (s : State) : Result := aluReg .sub .d s
/-- `SUB A,E`, 0x93 (R144). -/
def exec_sub_a_e (s : State) : Result := aluReg .sub .e s
/-- `SUB A,H`, 0x94 (R144). -/
def exec_sub_a_h (s : State) : Result := aluReg .sub .h s
/-- `SUB A,L`, 0x95 (R144). -/
def exec_sub_a_l (s : State) : Result := aluReg .sub .l s
/-- `SUB A,(HL)`, 0x96 (R145). -/
def exec_sub_a_atHl (s : State) : Result := aluHl .sub s
/-- `SUB A,A`, 0x97 (R144). -/
def exec_sub_a_a (s : State) : Result := aluReg .sub .a s
/-- `SBC A,B`, 0x98 (R147). -/
def exec_sbc_a_b (s : State) : Result := aluReg .sbc .b s
/-- `SBC A,C`, 0x99 (R147). -/
def exec_sbc_a_c (s : State) : Result := aluReg .sbc .c s
/-- `SBC A,D`, 0x9A (R147). -/
def exec_sbc_a_d (s : State) : Result := aluReg .sbc .d s
/-- `SBC A,E`, 0x9B (R147). -/
def exec_sbc_a_e (s : State) : Result := aluReg .sbc .e s
/-- `SBC A,H`, 0x9C (R147). -/
def exec_sbc_a_h (s : State) : Result := aluReg .sbc .h s
/-- `SBC A,L`, 0x9D (R147). -/
def exec_sbc_a_l (s : State) : Result := aluReg .sbc .l s
/-- `SBC A,(HL)`, 0x9E (R148). -/
def exec_sbc_a_atHl (s : State) : Result := aluHl .sbc s
/-- `SBC A,A`, 0x9F (R147). -/
def exec_sbc_a_a (s : State) : Result := aluReg .sbc .a s
/-- `AND A,B`, 0xA0 (R150). -/
def exec_and_a_b (s : State) : Result := aluReg .and .b s
/-- `AND A,C`, 0xA1 (R150). -/
def exec_and_a_c (s : State) : Result := aluReg .and .c s
/-- `AND A,D`, 0xA2 (R150). -/
def exec_and_a_d (s : State) : Result := aluReg .and .d s
/-- `AND A,E`, 0xA3 (R150). -/
def exec_and_a_e (s : State) : Result := aluReg .and .e s
/-- `AND A,H`, 0xA4 (R150). -/
def exec_and_a_h (s : State) : Result := aluReg .and .h s
/-- `AND A,L`, 0xA5 (R150). -/
def exec_and_a_l (s : State) : Result := aluReg .and .l s
/-- `AND A,(HL)`, 0xA6 (R151). -/
def exec_and_a_atHl (s : State) : Result := aluHl .and s
/-- `AND A,A`, 0xA7 (R150). -/
def exec_and_a_a (s : State) : Result := aluReg .and .a s
/-- `XOR A,B`, 0xA8 (R153). -/
def exec_xor_a_b (s : State) : Result := aluReg .xor .b s
/-- `XOR A,C`, 0xA9 (R153). -/
def exec_xor_a_c (s : State) : Result := aluReg .xor .c s
/-- `XOR A,D`, 0xAA (R153). -/
def exec_xor_a_d (s : State) : Result := aluReg .xor .d s
/-- `XOR A,E`, 0xAB (R153). -/
def exec_xor_a_e (s : State) : Result := aluReg .xor .e s
/-- `XOR A,H`, 0xAC (R153). -/
def exec_xor_a_h (s : State) : Result := aluReg .xor .h s
/-- `XOR A,L`, 0xAD (R153). -/
def exec_xor_a_l (s : State) : Result := aluReg .xor .l s
/-- `XOR A,(HL)`, 0xAE (R154). -/
def exec_xor_a_atHl (s : State) : Result := aluHl .xor s
/-- `XOR A,A`, 0xAF (R153). -/
def exec_xor_a_a (s : State) : Result := aluReg .xor .a s
/-- `OR A,B`, 0xB0 (R156). -/
def exec_or_a_b (s : State) : Result := aluReg .or .b s
/-- `OR A,C`, 0xB1 (R156). -/
def exec_or_a_c (s : State) : Result := aluReg .or .c s
/-- `OR A,D`, 0xB2 (R156). -/
def exec_or_a_d (s : State) : Result := aluReg .or .d s
/-- `OR A,E`, 0xB3 (R156). -/
def exec_or_a_e (s : State) : Result := aluReg .or .e s
/-- `OR A,H`, 0xB4 (R156). -/
def exec_or_a_h (s : State) : Result := aluReg .or .h s
/-- `OR A,L`, 0xB5 (R156). -/
def exec_or_a_l (s : State) : Result := aluReg .or .l s
/-- `OR A,(HL)`, 0xB6 (R157). -/
def exec_or_a_atHl (s : State) : Result := aluHl .or s
/-- `OR A,A`, 0xB7 (R156). -/
def exec_or_a_a (s : State) : Result := aluReg .or .a s
/-- `CP A,B`, 0xB8 (R159). -/
def exec_cp_a_b (s : State) : Result := aluReg .cp .b s
/-- `CP A,C`, 0xB9 (R159). -/
def exec_cp_a_c (s : State) : Result := aluReg .cp .c s
/-- `CP A,D`, 0xBA (R159). -/
def exec_cp_a_d (s : State) : Result := aluReg .cp .d s
/-- `CP A,E`, 0xBB (R159). -/
def exec_cp_a_e (s : State) : Result := aluReg .cp .e s
/-- `CP A,H`, 0xBC (R159). -/
def exec_cp_a_h (s : State) : Result := aluReg .cp .h s
/-- `CP A,L`, 0xBD (R159). -/
def exec_cp_a_l (s : State) : Result := aluReg .cp .l s
/-- `CP A,(HL)`, 0xBE (R160). -/
def exec_cp_a_atHl (s : State) : Result := aluHl .cp s
/-- `CP A,A`, 0xBF (R159). -/
def exec_cp_a_a (s : State) : Result := aluReg .cp .a s
/-- `ADD A,d8`, 0xC6 (R140). -/
def exec_add_a_d8 (n : Byte) (s : State) : Result := aluImm .add n s
/-- `ADC A,d8`, 0xCE (R143). -/
def exec_adc_a_d8 (n : Byte) (s : State) : Result := aluImm .adc n s
/-- `SUB A,d8`, 0xD6 (R146). -/
def exec_sub_a_d8 (n : Byte) (s : State) : Result := aluImm .sub n s
/-- `SBC A,d8`, 0xDE (R149). -/
def exec_sbc_a_d8 (n : Byte) (s : State) : Result := aluImm .sbc n s
/-- `AND A,d8`, 0xE6 (R152). -/
def exec_and_a_d8 (n : Byte) (s : State) : Result := aluImm .and n s
/-- `XOR A,d8`, 0xEE (R155). -/
def exec_xor_a_d8 (n : Byte) (s : State) : Result := aluImm .xor n s
/-- `OR A,d8`, 0xF6 (R158). -/
def exec_or_a_d8 (n : Byte) (s : State) : Result := aluImm .or n s
/-- `CP A,d8`, 0xFE (R161). -/
def exec_cp_a_d8 (n : Byte) (s : State) : Result := aluImm .cp n s

end Sys2Proof.Machine
end

