-- ==== Sys2Proof/Machine/Control.lean ====
section
/-! DEFINITION. The meanings of the control transfers (45_control.md). Each writes PC on every path; none changes a
flag. -/

namespace Sys2Proof.Machine

/-- `JP a16` (R210). -/
def jump (nn : Word) (s : State) : Result := .next (s.goTo nn 4)

/-- `JP cc,a16` (R211). -/
def jumpIf (cc : Cond) (nn : Word) (s : State) : Result :=
  .next (if s.cpu.holds cc then s.goTo nn 4 else s.retire 3 3)

/-- `JP HL` (R212). -/
def jumpHl (s : State) : Result := .next (s.goTo s.cpu.hl 1)

/-- `JR e` (R213). -/
def jumpRel (e : Byte) (s : State) : Result := .next (s.goTo (s.relative e) 3)

/-- `JR cc,e` (R214). -/
def jumpRelIf (cc : Cond) (e : Byte) (s : State) : Result :=
  .next (if s.cpu.holds cc then s.goTo (s.relative e) 3 else s.retire 2 2)

/-- `CALL a16`: pushes "the address of the instruction after the `CALL`" (R215). -/
def call (nn : Word) (s : State) : Result := .next ((s.push16 (s.cpu.pc + 3)).goTo nn 6)

/-- `CALL cc,a16` (R216). -/
def callIf (cc : Cond) (nn : Word) (s : State) : Result :=
  .next (if s.cpu.holds cc then (s.push16 (s.cpu.pc + 3)).goTo nn 6 else s.retire 3 3)

/-- `RET` (R217). -/
def ret (s : State) : Result := .next (s.popped.goTo s.stackTop 4)

/-- `RET cc` (R218). -/
def returnIf (cc : Cond) (s : State) : Result :=
  .next (if s.cpu.holds cc then s.popped.goTo s.stackTop 5 else s.retire 1 2)

/-- `RETI` (R219). -/
def reti (s : State) : Result := .next (s.returnFromInterrupt 4)

/-- `RST n`, n = 8 * y (R221). -/
def restart (y : Fin 8) (s : State) : Result :=
  .next ((s.push16 (s.cpu.pc + 1)).goTo (BitVec.ofNat 16 (8 * y.val)) 4)

/-- `JR e`, 0x18 (R213). -/
def exec_jr_e (e : Byte) (s : State) : Result := jumpRel e s
/-- `JR NZ,e`, 0x20 (R214). -/
def exec_jr_nz_e (e : Byte) (s : State) : Result := jumpRelIf .nz e s
/-- `JR Z,e`, 0x28 (R214). -/
def exec_jr_z_e (e : Byte) (s : State) : Result := jumpRelIf .z e s
/-- `JR NC,e`, 0x30 (R214). -/
def exec_jr_nc_e (e : Byte) (s : State) : Result := jumpRelIf .nc e s
/-- `JR C,e`, 0x38 (R214). -/
def exec_jr_c_e (e : Byte) (s : State) : Result := jumpRelIf .c e s
/-- `RET NZ`, 0xC0 (R218). -/
def exec_ret_nz (s : State) : Result := returnIf .nz s
/-- `JP NZ,a16`, 0xC2 (R211). -/
def exec_jp_nz_a16 (nn : Word) (s : State) : Result := jumpIf .nz nn s
/-- `JP a16`, 0xC3 (R210). -/
def exec_jp_a16 (nn : Word) (s : State) : Result := jump nn s
/-- `CALL NZ,a16`, 0xC4 (R216). -/
def exec_call_nz_a16 (nn : Word) (s : State) : Result := callIf .nz nn s
/-- `RST 0x00`, 0xC7 (R221). -/
def exec_rst_00 (s : State) : Result := restart 0 s
/-- `RET Z`, 0xC8 (R218). -/
def exec_ret_z (s : State) : Result := returnIf .z s
/-- `RET`, 0xC9 (R217). -/
def exec_ret (s : State) : Result := ret s
/-- `JP Z,a16`, 0xCA (R211). -/
def exec_jp_z_a16 (nn : Word) (s : State) : Result := jumpIf .z nn s
/-- `CALL Z,a16`, 0xCC (R216). -/
def exec_call_z_a16 (nn : Word) (s : State) : Result := callIf .z nn s
/-- `CALL a16`, 0xCD (R215). -/
def exec_call_a16 (nn : Word) (s : State) : Result := call nn s
/-- `RST 0x08`, 0xCF (R221). -/
def exec_rst_08 (s : State) : Result := restart 1 s
/-- `RET NC`, 0xD0 (R218). -/
def exec_ret_nc (s : State) : Result := returnIf .nc s
/-- `JP NC,a16`, 0xD2 (R211). -/
def exec_jp_nc_a16 (nn : Word) (s : State) : Result := jumpIf .nc nn s
/-- `CALL NC,a16`, 0xD4 (R216). -/
def exec_call_nc_a16 (nn : Word) (s : State) : Result := callIf .nc nn s
/-- `RST 0x10`, 0xD7 (R221). -/
def exec_rst_10 (s : State) : Result := restart 2 s
/-- `RET C`, 0xD8 (R218). -/
def exec_ret_c (s : State) : Result := returnIf .c s
/-- `RETI`, 0xD9 (R219). -/
def exec_reti (s : State) : Result := reti s
/-- `JP C,a16`, 0xDA (R211). -/
def exec_jp_c_a16 (nn : Word) (s : State) : Result := jumpIf .c nn s
/-- `CALL C,a16`, 0xDC (R216). -/
def exec_call_c_a16 (nn : Word) (s : State) : Result := callIf .c nn s
/-- `RST 0x18`, 0xDF (R221). -/
def exec_rst_18 (s : State) : Result := restart 3 s
/-- `RST 0x20`, 0xE7 (R221). -/
def exec_rst_20 (s : State) : Result := restart 4 s
/-- `JP HL`, 0xE9 (R212). -/
def exec_jp_hl (s : State) : Result := jumpHl s
/-- `RST 0x28`, 0xEF (R221). -/
def exec_rst_28 (s : State) : Result := restart 5 s
/-- `RST 0x30`, 0xF7 (R221). -/
def exec_rst_30 (s : State) : Result := restart 6 s
/-- `RST 0x38`, 0xFF (R221). -/
def exec_rst_38 (s : State) : Result := restart 7 s

end Sys2Proof.Machine
end

