-- ==== Sys2Proof/Machine/Load16.lean ====
section
/-! DEFINITION. The meanings of the 16-bit loads and the stack instructions (41_load16.md). -/

namespace Sys2Proof.Machine

/-- `LD rr,d16` (R120). -/
def ldPairImm (p : Pair) (nn : Word) (s : State) : Result := .next ((s.setPair p nn).retire 3 3)

/-- `LD (a16),SP` (R121). -/
def ldMemSp (nn : Word) (s : State) : Result := .next ((memWrite16 s nn s.cpu.sp).retire 3 5)

/-- `LD SP,HL` (R122). -/
def ldSpHl (s : State) : Result := .next ((s.setSp s.cpu.hl).retire 1 2)

/-- `LD HL,SP+e`: Z = 0, N = 0 (R123). -/
def ldHlSp (e : Byte) (s : State) : Result :=
  let r := addSp16 s.cpu.sp e
  .next (((s.setHl r.value).setFlags false false r.h r.c).retire 2 3)

/-- `PUSH rr` (R127). -/
def pushPair (p : StackPair) (s : State) : Result := .next ((s.push16 (s.cpu.stackPair p)).retire 1 4)

/-- `POP rr` and `POP AF` (R128, R129). -/
def popPair (p : StackPair) (s : State) : Result := .next ((s.popped.setStackPair p s.stackTop).retire 1 3)

/-- `LD BC,d16`, 0x01 (R120). -/
def exec_ld_bc_d16 (nn : Word) (s : State) : Result := ldPairImm .bc nn s
/-- `LD (a16),SP`, 0x08 (R121). -/
def exec_ld_atA16_sp (nn : Word) (s : State) : Result := ldMemSp nn s
/-- `LD DE,d16`, 0x11 (R120). -/
def exec_ld_de_d16 (nn : Word) (s : State) : Result := ldPairImm .de nn s
/-- `LD HL,d16`, 0x21 (R120). -/
def exec_ld_hl_d16 (nn : Word) (s : State) : Result := ldPairImm .hl nn s
/-- `LD SP,d16`, 0x31 (R120). -/
def exec_ld_sp_d16 (nn : Word) (s : State) : Result := ldPairImm .sp nn s
/-- `POP BC`, 0xC1 (R128). -/
def exec_pop_bc (s : State) : Result := popPair .bc s
/-- `PUSH BC`, 0xC5 (R127). -/
def exec_push_bc (s : State) : Result := pushPair .bc s
/-- `POP DE`, 0xD1 (R128). -/
def exec_pop_de (s : State) : Result := popPair .de s
/-- `PUSH DE`, 0xD5 (R127). -/
def exec_push_de (s : State) : Result := pushPair .de s
/-- `POP HL`, 0xE1 (R128). -/
def exec_pop_hl (s : State) : Result := popPair .hl s
/-- `PUSH HL`, 0xE5 (R127). -/
def exec_push_hl (s : State) : Result := pushPair .hl s
/-- `POP AF`, 0xF1 (R129). -/
def exec_pop_af (s : State) : Result := popPair .af s
/-- `PUSH AF`, 0xF5 (R127). -/
def exec_push_af (s : State) : Result := pushPair .af s
/-- `LD HL,SP+e`, 0xF8 (R123). -/
def exec_ld_hl_sp_e (e : Byte) (s : State) : Result := ldHlSp e s
/-- `LD SP,HL`, 0xF9 (R122). -/
def exec_ld_sp_hl (s : State) : Result := ldSpHl s

end Sys2Proof.Machine
end

