-- ==== Sys2Proof/Machine/Load8.lean ====
section
/-! DEFINITION. The meanings of the 8-bit loads (40_load8.md). No flag is written, nothing faults. -/

namespace Sys2Proof.Machine

/-- `LD r,r'` (R100). -/
def ldRegReg (dst r : Reg8) (s : State) : Result := .next ((s.setReg dst (s.reg r)).retire 1 1)

/-- `LD r,d8` (R101). -/
def ldRegImm (dst : Reg8) (n : Byte) (s : State) : Result := .next ((s.setReg dst n).retire 2 2)

/-- `LD r,(HL)`: the address is the old HL (R102). -/
def ldRegHl (dst : Reg8) (s : State) : Result := .next ((s.setReg dst s.loadHl).retire 1 2)

/-- `LD (HL),r` (R103). -/
def ldHlReg (r : Reg8) (s : State) : Result := .next ((s.storeHl (s.reg r)).retire 1 2)

/-- `LD (HL),d8` (R104). -/
def ldHlImm (n : Byte) (s : State) : Result := .next ((s.storeHl n).retire 2 3)

/-- A load of A from an address (R105, R106, R109, R111, R113). -/
def ldAMem (addr : Word) (len : Word) (cost : Byte) (s : State) : Result :=
  .next ((s.setA (s.load addr)).retire len cost)

/-- A store of A at an address (R107, R108, R110, R112, R114). -/
def ldMemA (addr : Word) (len : Word) (cost : Byte) (s : State) : Result :=
  .next ((memWrite s addr s.cpu.a).retire len cost)

/-- `LD (HL+),A` and `LD (HL-),A`: the store uses HL before the step (R115, R116). -/
def ldHlAStep (delta : Word) (s : State) : Result :=
  .next (((s.storeHl s.cpu.a).setHl (s.cpu.hl + delta)).retire 1 2)

/-- `LD A,(HL+)` and `LD A,(HL-)` (R117, R118). -/
def ldAHlStep (delta : Word) (s : State) : Result :=
  .next (((s.setA s.loadHl).setHl (s.cpu.hl + delta)).retire 1 2)

/-- `LD (BC),A`, 0x02 (R107). -/
def exec_ld_atBc_a (s : State) : Result := ldMemA s.cpu.bc 1 2 s
/-- `LD B,d8`, 0x06 (R101). -/
def exec_ld_b_d8 (n : Byte) (s : State) : Result := ldRegImm .b n s
/-- `LD A,(BC)`, 0x0A (R105). -/
def exec_ld_a_atBc (s : State) : Result := ldAMem s.cpu.bc 1 2 s
/-- `LD C,d8`, 0x0E (R101). -/
def exec_ld_c_d8 (n : Byte) (s : State) : Result := ldRegImm .c n s
/-- `LD (DE),A`, 0x12 (R108). -/
def exec_ld_atDe_a (s : State) : Result := ldMemA s.cpu.de 1 2 s
/-- `LD D,d8`, 0x16 (R101). -/
def exec_ld_d_d8 (n : Byte) (s : State) : Result := ldRegImm .d n s
/-- `LD A,(DE)`, 0x1A (R106). -/
def exec_ld_a_atDe (s : State) : Result := ldAMem s.cpu.de 1 2 s
/-- `LD E,d8`, 0x1E (R101). -/
def exec_ld_e_d8 (n : Byte) (s : State) : Result := ldRegImm .e n s
/-- `LD (HL+),A`, 0x22 (R115). -/
def exec_ld_atHlInc_a (s : State) : Result := ldHlAStep 1 s
/-- `LD H,d8`, 0x26 (R101). -/
def exec_ld_h_d8 (n : Byte) (s : State) : Result := ldRegImm .h n s
/-- `LD A,(HL+)`, 0x2A (R117). -/
def exec_ld_a_atHlInc (s : State) : Result := ldAHlStep 1 s
/-- `LD L,d8`, 0x2E (R101). -/
def exec_ld_l_d8 (n : Byte) (s : State) : Result := ldRegImm .l n s
/-- `LD (HL-),A`, 0x32 (R116). -/
def exec_ld_atHlDec_a (s : State) : Result := ldHlAStep (-1) s
/-- `LD (HL),d8`, 0x36 (R104). -/
def exec_ld_atHl_d8 (n : Byte) (s : State) : Result := ldHlImm n s
/-- `LD A,(HL-)`, 0x3A (R118). -/
def exec_ld_a_atHlDec (s : State) : Result := ldAHlStep (-1) s
/-- `LD A,d8`, 0x3E (R101). -/
def exec_ld_a_d8 (n : Byte) (s : State) : Result := ldRegImm .a n s
/-- `LD B,B`, 0x40 (R100). -/
def exec_ld_b_b (s : State) : Result := ldRegReg .b .b s
/-- `LD B,C`, 0x41 (R100). -/
def exec_ld_b_c (s : State) : Result := ldRegReg .b .c s
/-- `LD B,D`, 0x42 (R100). -/
def exec_ld_b_d (s : State) : Result := ldRegReg .b .d s
/-- `LD B,E`, 0x43 (R100). -/
def exec_ld_b_e (s : State) : Result := ldRegReg .b .e s
/-- `LD B,H`, 0x44 (R100). -/
def exec_ld_b_h (s : State) : Result := ldRegReg .b .h s
/-- `LD B,L`, 0x45 (R100). -/
def exec_ld_b_l (s : State) : Result := ldRegReg .b .l s
/-- `LD B,(HL)`, 0x46 (R102). -/
def exec_ld_b_atHl (s : State) : Result := ldRegHl .b s
/-- `LD B,A`, 0x47 (R100). -/
def exec_ld_b_a (s : State) : Result := ldRegReg .b .a s
/-- `LD C,B`, 0x48 (R100). -/
def exec_ld_c_b (s : State) : Result := ldRegReg .c .b s
/-- `LD C,C`, 0x49 (R100). -/
def exec_ld_c_c (s : State) : Result := ldRegReg .c .c s
/-- `LD C,D`, 0x4A (R100). -/
def exec_ld_c_d (s : State) : Result := ldRegReg .c .d s
/-- `LD C,E`, 0x4B (R100). -/
def exec_ld_c_e (s : State) : Result := ldRegReg .c .e s
/-- `LD C,H`, 0x4C (R100). -/
def exec_ld_c_h (s : State) : Result := ldRegReg .c .h s
/-- `LD C,L`, 0x4D (R100). -/
def exec_ld_c_l (s : State) : Result := ldRegReg .c .l s
/-- `LD C,(HL)`, 0x4E (R102). -/
def exec_ld_c_atHl (s : State) : Result := ldRegHl .c s
/-- `LD C,A`, 0x4F (R100). -/
def exec_ld_c_a (s : State) : Result := ldRegReg .c .a s
/-- `LD D,B`, 0x50 (R100). -/
def exec_ld_d_b (s : State) : Result := ldRegReg .d .b s
/-- `LD D,C`, 0x51 (R100). -/
def exec_ld_d_c (s : State) : Result := ldRegReg .d .c s
/-- `LD D,D`, 0x52 (R100). -/
def exec_ld_d_d (s : State) : Result := ldRegReg .d .d s
/-- `LD D,E`, 0x53 (R100). -/
def exec_ld_d_e (s : State) : Result := ldRegReg .d .e s
/-- `LD D,H`, 0x54 (R100). -/
def exec_ld_d_h (s : State) : Result := ldRegReg .d .h s
/-- `LD D,L`, 0x55 (R100). -/
def exec_ld_d_l (s : State) : Result := ldRegReg .d .l s
/-- `LD D,(HL)`, 0x56 (R102). -/
def exec_ld_d_atHl (s : State) : Result := ldRegHl .d s
/-- `LD D,A`, 0x57 (R100). -/
def exec_ld_d_a (s : State) : Result := ldRegReg .d .a s
/-- `LD E,B`, 0x58 (R100). -/
def exec_ld_e_b (s : State) : Result := ldRegReg .e .b s
/-- `LD E,C`, 0x59 (R100). -/
def exec_ld_e_c (s : State) : Result := ldRegReg .e .c s
/-- `LD E,D`, 0x5A (R100). -/
def exec_ld_e_d (s : State) : Result := ldRegReg .e .d s
/-- `LD E,E`, 0x5B (R100). -/
def exec_ld_e_e (s : State) : Result := ldRegReg .e .e s
/-- `LD E,H`, 0x5C (R100). -/
def exec_ld_e_h (s : State) : Result := ldRegReg .e .h s
/-- `LD E,L`, 0x5D (R100). -/
def exec_ld_e_l (s : State) : Result := ldRegReg .e .l s
/-- `LD E,(HL)`, 0x5E (R102). -/
def exec_ld_e_atHl (s : State) : Result := ldRegHl .e s
/-- `LD E,A`, 0x5F (R100). -/
def exec_ld_e_a (s : State) : Result := ldRegReg .e .a s
/-- `LD H,B`, 0x60 (R100). -/
def exec_ld_h_b (s : State) : Result := ldRegReg .h .b s
/-- `LD H,C`, 0x61 (R100). -/
def exec_ld_h_c (s : State) : Result := ldRegReg .h .c s
/-- `LD H,D`, 0x62 (R100). -/
def exec_ld_h_d (s : State) : Result := ldRegReg .h .d s
/-- `LD H,E`, 0x63 (R100). -/
def exec_ld_h_e (s : State) : Result := ldRegReg .h .e s
/-- `LD H,H`, 0x64 (R100). -/
def exec_ld_h_h (s : State) : Result := ldRegReg .h .h s
/-- `LD H,L`, 0x65 (R100). -/
def exec_ld_h_l (s : State) : Result := ldRegReg .h .l s
/-- `LD H,(HL)`, 0x66 (R102). -/
def exec_ld_h_atHl (s : State) : Result := ldRegHl .h s
/-- `LD H,A`, 0x67 (R100). -/
def exec_ld_h_a (s : State) : Result := ldRegReg .h .a s
/-- `LD L,B`, 0x68 (R100). -/
def exec_ld_l_b (s : State) : Result := ldRegReg .l .b s
/-- `LD L,C`, 0x69 (R100). -/
def exec_ld_l_c (s : State) : Result := ldRegReg .l .c s
/-- `LD L,D`, 0x6A (R100). -/
def exec_ld_l_d (s : State) : Result := ldRegReg .l .d s
/-- `LD L,E`, 0x6B (R100). -/
def exec_ld_l_e (s : State) : Result := ldRegReg .l .e s
/-- `LD L,H`, 0x6C (R100). -/
def exec_ld_l_h (s : State) : Result := ldRegReg .l .h s
/-- `LD L,L`, 0x6D (R100). -/
def exec_ld_l_l (s : State) : Result := ldRegReg .l .l s
/-- `LD L,(HL)`, 0x6E (R102). -/
def exec_ld_l_atHl (s : State) : Result := ldRegHl .l s
/-- `LD L,A`, 0x6F (R100). -/
def exec_ld_l_a (s : State) : Result := ldRegReg .l .a s
/-- `LD (HL),B`, 0x70 (R103). -/
def exec_ld_atHl_b (s : State) : Result := ldHlReg .b s
/-- `LD (HL),C`, 0x71 (R103). -/
def exec_ld_atHl_c (s : State) : Result := ldHlReg .c s
/-- `LD (HL),D`, 0x72 (R103). -/
def exec_ld_atHl_d (s : State) : Result := ldHlReg .d s
/-- `LD (HL),E`, 0x73 (R103). -/
def exec_ld_atHl_e (s : State) : Result := ldHlReg .e s
/-- `LD (HL),H`, 0x74 (R103). -/
def exec_ld_atHl_h (s : State) : Result := ldHlReg .h s
/-- `LD (HL),L`, 0x75 (R103). -/
def exec_ld_atHl_l (s : State) : Result := ldHlReg .l s
/-- `LD (HL),A`, 0x77 (R103). -/
def exec_ld_atHl_a (s : State) : Result := ldHlReg .a s
/-- `LD A,B`, 0x78 (R100). -/
def exec_ld_a_b (s : State) : Result := ldRegReg .a .b s
/-- `LD A,C`, 0x79 (R100). -/
def exec_ld_a_c (s : State) : Result := ldRegReg .a .c s
/-- `LD A,D`, 0x7A (R100). -/
def exec_ld_a_d (s : State) : Result := ldRegReg .a .d s
/-- `LD A,E`, 0x7B (R100). -/
def exec_ld_a_e (s : State) : Result := ldRegReg .a .e s
/-- `LD A,H`, 0x7C (R100). -/
def exec_ld_a_h (s : State) : Result := ldRegReg .a .h s
/-- `LD A,L`, 0x7D (R100). -/
def exec_ld_a_l (s : State) : Result := ldRegReg .a .l s
/-- `LD A,(HL)`, 0x7E (R102). -/
def exec_ld_a_atHl (s : State) : Result := ldRegHl .a s
/-- `LD A,A`, 0x7F (R100). -/
def exec_ld_a_a (s : State) : Result := ldRegReg .a .a s
/-- `LDH (a8),A`, 0xE0 (R112). -/
def exec_ldh_atA8_a (n : Byte) (s : State) : Result := ldMemA (highPage n) 2 3 s
/-- `LD (C),A`, 0xE2 (R114). -/
def exec_ld_atC_a (s : State) : Result := ldMemA (highPage s.cpu.c) 1 2 s
/-- `LD (a16),A`, 0xEA (R110). -/
def exec_ld_atA16_a (nn : Word) (s : State) : Result := ldMemA nn 3 4 s
/-- `LDH A,(a8)`, 0xF0 (R111). -/
def exec_ldh_a_atA8 (n : Byte) (s : State) : Result := ldAMem (highPage n) 2 3 s
/-- `LD A,(C)`, 0xF2 (R113). -/
def exec_ld_a_atC (s : State) : Result := ldAMem (highPage s.cpu.c) 1 2 s
/-- `LD A,(a16)`, 0xFA (R109). -/
def exec_ld_a_atA16 (nn : Word) (s : State) : Result := ldAMem nn 3 4 s

end Sys2Proof.Machine
end

