-- ==== Sys2Proof/Machine/RotateShiftBit.lean ====
section
/-! DEFINITION. The meanings of the rotates, shifts and bit operations (44_rotate_shift_bit.md). The CB-table forms run
with PC at the CB byte; their cost leaves out the prefix's own tick. -/

namespace Sys2Proof.Machine

/-- `RLCA`, `RRCA`, `RLA`, `RRA` (R180 to R183). -/
def rotA (op : RotOp) (s : State) : Result :=
  .next ((s.putAlu (rotAResult op s.cpu.a s.cpu.flagC)).retire 1 1)

/-- A rotate or shift of a register (R184, R186, R188, R190, R192, R194, R196, R198). -/
def rotReg (op : RotOp) (r : Reg8) (s : State) : Result :=
  let res := rotResult op (s.reg r) s.cpu.flagC
  .next (((s.setReg r res.value).putFlags res).retire 1 1)

/-- A rotate or shift of the byte at HL (R185, R187, R189, R191, R193, R195, R197, R199). -/
def rotHl (op : RotOp) (s : State) : Result :=
  let res := rotResult op s.loadHl s.cpu.flagC
  .next (((s.storeHl res.value).putFlags res).retire 1 3)

/-- `BIT b,r` (R200). -/
def bitReg (b : Fin 8) (r : Reg8) (s : State) : Result := .next ((s.setCpu (s.cpu.testBit b (s.reg r))).retire 1 1)

/-- `BIT b,(HL)` (R201). -/
def bitHl (b : Fin 8) (s : State) : Result := .next ((s.setCpu (s.cpu.testBit b s.loadHl)).retire 1 2)

/-- `RES b,r` (R202). -/
def resReg (b : Fin 8) (r : Reg8) (s : State) : Result := .next ((s.setReg r (clearBit b (s.reg r))).retire 1 1)

/-- `RES b,(HL)` (R203). -/
def resHl (b : Fin 8) (s : State) : Result := .next ((s.storeHl (clearBit b s.loadHl)).retire 1 3)

/-- `SET b,r` (R204). -/
def setBitReg (b : Fin 8) (r : Reg8) (s : State) : Result := .next ((s.setReg r (raiseBit b (s.reg r))).retire 1 1)

/-- `SET b,(HL)` (R205). -/
def setBitHl (b : Fin 8) (s : State) : Result := .next ((s.storeHl (raiseBit b s.loadHl)).retire 1 3)

/-- `RLCA`, 0x07 (R180). -/
def exec_rlca (s : State) : Result := rotA .rlc s
/-- `RRCA`, 0x0F (R182). -/
def exec_rrca (s : State) : Result := rotA .rrc s
/-- `RLA`, 0x17 (R181). -/
def exec_rla (s : State) : Result := rotA .rl s
/-- `RRA`, 0x1F (R183). -/
def exec_rra (s : State) : Result := rotA .rr s
/-- `RLC B`, CB 0x00 (R184). -/
def exec_rlc_b (s : State) : Result := rotReg .rlc .b s
/-- `RLC C`, CB 0x01 (R184). -/
def exec_rlc_c (s : State) : Result := rotReg .rlc .c s
/-- `RLC D`, CB 0x02 (R184). -/
def exec_rlc_d (s : State) : Result := rotReg .rlc .d s
/-- `RLC E`, CB 0x03 (R184). -/
def exec_rlc_e (s : State) : Result := rotReg .rlc .e s
/-- `RLC H`, CB 0x04 (R184). -/
def exec_rlc_h (s : State) : Result := rotReg .rlc .h s
/-- `RLC L`, CB 0x05 (R184). -/
def exec_rlc_l (s : State) : Result := rotReg .rlc .l s
/-- `RLC (HL)`, CB 0x06 (R185). -/
def exec_rlc_atHl (s : State) : Result := rotHl .rlc s
/-- `RLC A`, CB 0x07 (R184). -/
def exec_rlc_a (s : State) : Result := rotReg .rlc .a s
/-- `RRC B`, CB 0x08 (R186). -/
def exec_rrc_b (s : State) : Result := rotReg .rrc .b s
/-- `RRC C`, CB 0x09 (R186). -/
def exec_rrc_c (s : State) : Result := rotReg .rrc .c s
/-- `RRC D`, CB 0x0A (R186). -/
def exec_rrc_d (s : State) : Result := rotReg .rrc .d s
/-- `RRC E`, CB 0x0B (R186). -/
def exec_rrc_e (s : State) : Result := rotReg .rrc .e s
/-- `RRC H`, CB 0x0C (R186). -/
def exec_rrc_h (s : State) : Result := rotReg .rrc .h s
/-- `RRC L`, CB 0x0D (R186). -/
def exec_rrc_l (s : State) : Result := rotReg .rrc .l s
/-- `RRC (HL)`, CB 0x0E (R187). -/
def exec_rrc_atHl (s : State) : Result := rotHl .rrc s
/-- `RRC A`, CB 0x0F (R186). -/
def exec_rrc_a (s : State) : Result := rotReg .rrc .a s
/-- `RL B`, CB 0x10 (R188). -/
def exec_rl_b (s : State) : Result := rotReg .rl .b s
/-- `RL C`, CB 0x11 (R188). -/
def exec_rl_c (s : State) : Result := rotReg .rl .c s
/-- `RL D`, CB 0x12 (R188). -/
def exec_rl_d (s : State) : Result := rotReg .rl .d s
/-- `RL E`, CB 0x13 (R188). -/
def exec_rl_e (s : State) : Result := rotReg .rl .e s
/-- `RL H`, CB 0x14 (R188). -/
def exec_rl_h (s : State) : Result := rotReg .rl .h s
/-- `RL L`, CB 0x15 (R188). -/
def exec_rl_l (s : State) : Result := rotReg .rl .l s
/-- `RL (HL)`, CB 0x16 (R189). -/
def exec_rl_atHl (s : State) : Result := rotHl .rl s
/-- `RL A`, CB 0x17 (R188). -/
def exec_rl_a (s : State) : Result := rotReg .rl .a s
/-- `RR B`, CB 0x18 (R190). -/
def exec_rr_b (s : State) : Result := rotReg .rr .b s
/-- `RR C`, CB 0x19 (R190). -/
def exec_rr_c (s : State) : Result := rotReg .rr .c s
/-- `RR D`, CB 0x1A (R190). -/
def exec_rr_d (s : State) : Result := rotReg .rr .d s
/-- `RR E`, CB 0x1B (R190). -/
def exec_rr_e (s : State) : Result := rotReg .rr .e s
/-- `RR H`, CB 0x1C (R190). -/
def exec_rr_h (s : State) : Result := rotReg .rr .h s
/-- `RR L`, CB 0x1D (R190). -/
def exec_rr_l (s : State) : Result := rotReg .rr .l s
/-- `RR (HL)`, CB 0x1E (R191). -/
def exec_rr_atHl (s : State) : Result := rotHl .rr s
/-- `RR A`, CB 0x1F (R190). -/
def exec_rr_a (s : State) : Result := rotReg .rr .a s
/-- `SLA B`, CB 0x20 (R192). -/
def exec_sla_b (s : State) : Result := rotReg .sla .b s
/-- `SLA C`, CB 0x21 (R192). -/
def exec_sla_c (s : State) : Result := rotReg .sla .c s
/-- `SLA D`, CB 0x22 (R192). -/
def exec_sla_d (s : State) : Result := rotReg .sla .d s
/-- `SLA E`, CB 0x23 (R192). -/
def exec_sla_e (s : State) : Result := rotReg .sla .e s
/-- `SLA H`, CB 0x24 (R192). -/
def exec_sla_h (s : State) : Result := rotReg .sla .h s
/-- `SLA L`, CB 0x25 (R192). -/
def exec_sla_l (s : State) : Result := rotReg .sla .l s
/-- `SLA (HL)`, CB 0x26 (R193). -/
def exec_sla_atHl (s : State) : Result := rotHl .sla s
/-- `SLA A`, CB 0x27 (R192). -/
def exec_sla_a (s : State) : Result := rotReg .sla .a s
/-- `SRA B`, CB 0x28 (R194). -/
def exec_sra_b (s : State) : Result := rotReg .sra .b s
/-- `SRA C`, CB 0x29 (R194). -/
def exec_sra_c (s : State) : Result := rotReg .sra .c s
/-- `SRA D`, CB 0x2A (R194). -/
def exec_sra_d (s : State) : Result := rotReg .sra .d s
/-- `SRA E`, CB 0x2B (R194). -/
def exec_sra_e (s : State) : Result := rotReg .sra .e s
/-- `SRA H`, CB 0x2C (R194). -/
def exec_sra_h (s : State) : Result := rotReg .sra .h s
/-- `SRA L`, CB 0x2D (R194). -/
def exec_sra_l (s : State) : Result := rotReg .sra .l s
/-- `SRA (HL)`, CB 0x2E (R195). -/
def exec_sra_atHl (s : State) : Result := rotHl .sra s
/-- `SRA A`, CB 0x2F (R194). -/
def exec_sra_a (s : State) : Result := rotReg .sra .a s
/-- `SWAP B`, CB 0x30 (R196). -/
def exec_swap_b (s : State) : Result := rotReg .swap .b s
/-- `SWAP C`, CB 0x31 (R196). -/
def exec_swap_c (s : State) : Result := rotReg .swap .c s
/-- `SWAP D`, CB 0x32 (R196). -/
def exec_swap_d (s : State) : Result := rotReg .swap .d s
/-- `SWAP E`, CB 0x33 (R196). -/
def exec_swap_e (s : State) : Result := rotReg .swap .e s
/-- `SWAP H`, CB 0x34 (R196). -/
def exec_swap_h (s : State) : Result := rotReg .swap .h s
/-- `SWAP L`, CB 0x35 (R196). -/
def exec_swap_l (s : State) : Result := rotReg .swap .l s
/-- `SWAP (HL)`, CB 0x36 (R197). -/
def exec_swap_atHl (s : State) : Result := rotHl .swap s
/-- `SWAP A`, CB 0x37 (R196). -/
def exec_swap_a (s : State) : Result := rotReg .swap .a s
/-- `SRL B`, CB 0x38 (R198). -/
def exec_srl_b (s : State) : Result := rotReg .srl .b s
/-- `SRL C`, CB 0x39 (R198). -/
def exec_srl_c (s : State) : Result := rotReg .srl .c s
/-- `SRL D`, CB 0x3A (R198). -/
def exec_srl_d (s : State) : Result := rotReg .srl .d s
/-- `SRL E`, CB 0x3B (R198). -/
def exec_srl_e (s : State) : Result := rotReg .srl .e s
/-- `SRL H`, CB 0x3C (R198). -/
def exec_srl_h (s : State) : Result := rotReg .srl .h s
/-- `SRL L`, CB 0x3D (R198). -/
def exec_srl_l (s : State) : Result := rotReg .srl .l s
/-- `SRL (HL)`, CB 0x3E (R199). -/
def exec_srl_atHl (s : State) : Result := rotHl .srl s
/-- `SRL A`, CB 0x3F (R198). -/
def exec_srl_a (s : State) : Result := rotReg .srl .a s
/-- `BIT 0,B`, CB 0x40 (R200). -/
def exec_bit_0_b (s : State) : Result := bitReg 0 .b s
/-- `BIT 0,C`, CB 0x41 (R200). -/
def exec_bit_0_c (s : State) : Result := bitReg 0 .c s
/-- `BIT 0,D`, CB 0x42 (R200). -/
def exec_bit_0_d (s : State) : Result := bitReg 0 .d s
/-- `BIT 0,E`, CB 0x43 (R200). -/
def exec_bit_0_e (s : State) : Result := bitReg 0 .e s
/-- `BIT 0,H`, CB 0x44 (R200). -/
def exec_bit_0_h (s : State) : Result := bitReg 0 .h s
/-- `BIT 0,L`, CB 0x45 (R200). -/
def exec_bit_0_l (s : State) : Result := bitReg 0 .l s
/-- `BIT 0,(HL)`, CB 0x46 (R201). -/
def exec_bit_0_atHl (s : State) : Result := bitHl 0 s
/-- `BIT 0,A`, CB 0x47 (R200). -/
def exec_bit_0_a (s : State) : Result := bitReg 0 .a s
/-- `BIT 1,B`, CB 0x48 (R200). -/
def exec_bit_1_b (s : State) : Result := bitReg 1 .b s
/-- `BIT 1,C`, CB 0x49 (R200). -/
def exec_bit_1_c (s : State) : Result := bitReg 1 .c s
/-- `BIT 1,D`, CB 0x4A (R200). -/
def exec_bit_1_d (s : State) : Result := bitReg 1 .d s
/-- `BIT 1,E`, CB 0x4B (R200). -/
def exec_bit_1_e (s : State) : Result := bitReg 1 .e s
/-- `BIT 1,H`, CB 0x4C (R200). -/
def exec_bit_1_h (s : State) : Result := bitReg 1 .h s
/-- `BIT 1,L`, CB 0x4D (R200). -/
def exec_bit_1_l (s : State) : Result := bitReg 1 .l s
/-- `BIT 1,(HL)`, CB 0x4E (R201). -/
def exec_bit_1_atHl (s : State) : Result := bitHl 1 s
/-- `BIT 1,A`, CB 0x4F (R200). -/
def exec_bit_1_a (s : State) : Result := bitReg 1 .a s
/-- `BIT 2,B`, CB 0x50 (R200). -/
def exec_bit_2_b (s : State) : Result := bitReg 2 .b s
/-- `BIT 2,C`, CB 0x51 (R200). -/
def exec_bit_2_c (s : State) : Result := bitReg 2 .c s
/-- `BIT 2,D`, CB 0x52 (R200). -/
def exec_bit_2_d (s : State) : Result := bitReg 2 .d s
/-- `BIT 2,E`, CB 0x53 (R200). -/
def exec_bit_2_e (s : State) : Result := bitReg 2 .e s
/-- `BIT 2,H`, CB 0x54 (R200). -/
def exec_bit_2_h (s : State) : Result := bitReg 2 .h s
/-- `BIT 2,L`, CB 0x55 (R200). -/
def exec_bit_2_l (s : State) : Result := bitReg 2 .l s
/-- `BIT 2,(HL)`, CB 0x56 (R201). -/
def exec_bit_2_atHl (s : State) : Result := bitHl 2 s
/-- `BIT 2,A`, CB 0x57 (R200). -/
def exec_bit_2_a (s : State) : Result := bitReg 2 .a s
/-- `BIT 3,B`, CB 0x58 (R200). -/
def exec_bit_3_b (s : State) : Result := bitReg 3 .b s
/-- `BIT 3,C`, CB 0x59 (R200). -/
def exec_bit_3_c (s : State) : Result := bitReg 3 .c s
/-- `BIT 3,D`, CB 0x5A (R200). -/
def exec_bit_3_d (s : State) : Result := bitReg 3 .d s
/-- `BIT 3,E`, CB 0x5B (R200). -/
def exec_bit_3_e (s : State) : Result := bitReg 3 .e s
/-- `BIT 3,H`, CB 0x5C (R200). -/
def exec_bit_3_h (s : State) : Result := bitReg 3 .h s
/-- `BIT 3,L`, CB 0x5D (R200). -/
def exec_bit_3_l (s : State) : Result := bitReg 3 .l s
/-- `BIT 3,(HL)`, CB 0x5E (R201). -/
def exec_bit_3_atHl (s : State) : Result := bitHl 3 s
/-- `BIT 3,A`, CB 0x5F (R200). -/
def exec_bit_3_a (s : State) : Result := bitReg 3 .a s
/-- `BIT 4,B`, CB 0x60 (R200). -/
def exec_bit_4_b (s : State) : Result := bitReg 4 .b s
/-- `BIT 4,C`, CB 0x61 (R200). -/
def exec_bit_4_c (s : State) : Result := bitReg 4 .c s
/-- `BIT 4,D`, CB 0x62 (R200). -/
def exec_bit_4_d (s : State) : Result := bitReg 4 .d s
/-- `BIT 4,E`, CB 0x63 (R200). -/
def exec_bit_4_e (s : State) : Result := bitReg 4 .e s
/-- `BIT 4,H`, CB 0x64 (R200). -/
def exec_bit_4_h (s : State) : Result := bitReg 4 .h s
/-- `BIT 4,L`, CB 0x65 (R200). -/
def exec_bit_4_l (s : State) : Result := bitReg 4 .l s
/-- `BIT 4,(HL)`, CB 0x66 (R201). -/
def exec_bit_4_atHl (s : State) : Result := bitHl 4 s
/-- `BIT 4,A`, CB 0x67 (R200). -/
def exec_bit_4_a (s : State) : Result := bitReg 4 .a s
/-- `BIT 5,B`, CB 0x68 (R200). -/
def exec_bit_5_b (s : State) : Result := bitReg 5 .b s
/-- `BIT 5,C`, CB 0x69 (R200). -/
def exec_bit_5_c (s : State) : Result := bitReg 5 .c s
/-- `BIT 5,D`, CB 0x6A (R200). -/
def exec_bit_5_d (s : State) : Result := bitReg 5 .d s
/-- `BIT 5,E`, CB 0x6B (R200). -/
def exec_bit_5_e (s : State) : Result := bitReg 5 .e s
/-- `BIT 5,H`, CB 0x6C (R200). -/
def exec_bit_5_h (s : State) : Result := bitReg 5 .h s
/-- `BIT 5,L`, CB 0x6D (R200). -/
def exec_bit_5_l (s : State) : Result := bitReg 5 .l s
/-- `BIT 5,(HL)`, CB 0x6E (R201). -/
def exec_bit_5_atHl (s : State) : Result := bitHl 5 s
/-- `BIT 5,A`, CB 0x6F (R200). -/
def exec_bit_5_a (s : State) : Result := bitReg 5 .a s
/-- `BIT 6,B`, CB 0x70 (R200). -/
def exec_bit_6_b (s : State) : Result := bitReg 6 .b s
/-- `BIT 6,C`, CB 0x71 (R200). -/
def exec_bit_6_c (s : State) : Result := bitReg 6 .c s
/-- `BIT 6,D`, CB 0x72 (R200). -/
def exec_bit_6_d (s : State) : Result := bitReg 6 .d s
/-- `BIT 6,E`, CB 0x73 (R200). -/
def exec_bit_6_e (s : State) : Result := bitReg 6 .e s
/-- `BIT 6,H`, CB 0x74 (R200). -/
def exec_bit_6_h (s : State) : Result := bitReg 6 .h s
/-- `BIT 6,L`, CB 0x75 (R200). -/
def exec_bit_6_l (s : State) : Result := bitReg 6 .l s
/-- `BIT 6,(HL)`, CB 0x76 (R201). -/
def exec_bit_6_atHl (s : State) : Result := bitHl 6 s
/-- `BIT 6,A`, CB 0x77 (R200). -/
def exec_bit_6_a (s : State) : Result := bitReg 6 .a s
/-- `BIT 7,B`, CB 0x78 (R200). -/
def exec_bit_7_b (s : State) : Result := bitReg 7 .b s
/-- `BIT 7,C`, CB 0x79 (R200). -/
def exec_bit_7_c (s : State) : Result := bitReg 7 .c s
/-- `BIT 7,D`, CB 0x7A (R200). -/
def exec_bit_7_d (s : State) : Result := bitReg 7 .d s
/-- `BIT 7,E`, CB 0x7B (R200). -/
def exec_bit_7_e (s : State) : Result := bitReg 7 .e s
/-- `BIT 7,H`, CB 0x7C (R200). -/
def exec_bit_7_h (s : State) : Result := bitReg 7 .h s
/-- `BIT 7,L`, CB 0x7D (R200). -/
def exec_bit_7_l (s : State) : Result := bitReg 7 .l s
/-- `BIT 7,(HL)`, CB 0x7E (R201). -/
def exec_bit_7_atHl (s : State) : Result := bitHl 7 s
/-- `BIT 7,A`, CB 0x7F (R200). -/
def exec_bit_7_a (s : State) : Result := bitReg 7 .a s
/-- `RES 0,B`, CB 0x80 (R202). -/
def exec_res_0_b (s : State) : Result := resReg 0 .b s
/-- `RES 0,C`, CB 0x81 (R202). -/
def exec_res_0_c (s : State) : Result := resReg 0 .c s
/-- `RES 0,D`, CB 0x82 (R202). -/
def exec_res_0_d (s : State) : Result := resReg 0 .d s
/-- `RES 0,E`, CB 0x83 (R202). -/
def exec_res_0_e (s : State) : Result := resReg 0 .e s
/-- `RES 0,H`, CB 0x84 (R202). -/
def exec_res_0_h (s : State) : Result := resReg 0 .h s
/-- `RES 0,L`, CB 0x85 (R202). -/
def exec_res_0_l (s : State) : Result := resReg 0 .l s
/-- `RES 0,(HL)`, CB 0x86 (R203). -/
def exec_res_0_atHl (s : State) : Result := resHl 0 s
/-- `RES 0,A`, CB 0x87 (R202). -/
def exec_res_0_a (s : State) : Result := resReg 0 .a s
/-- `RES 1,B`, CB 0x88 (R202). -/
def exec_res_1_b (s : State) : Result := resReg 1 .b s
/-- `RES 1,C`, CB 0x89 (R202). -/
def exec_res_1_c (s : State) : Result := resReg 1 .c s
/-- `RES 1,D`, CB 0x8A (R202). -/
def exec_res_1_d (s : State) : Result := resReg 1 .d s
/-- `RES 1,E`, CB 0x8B (R202). -/
def exec_res_1_e (s : State) : Result := resReg 1 .e s
/-- `RES 1,H`, CB 0x8C (R202). -/
def exec_res_1_h (s : State) : Result := resReg 1 .h s
/-- `RES 1,L`, CB 0x8D (R202). -/
def exec_res_1_l (s : State) : Result := resReg 1 .l s
/-- `RES 1,(HL)`, CB 0x8E (R203). -/
def exec_res_1_atHl (s : State) : Result := resHl 1 s
/-- `RES 1,A`, CB 0x8F (R202). -/
def exec_res_1_a (s : State) : Result := resReg 1 .a s
/-- `RES 2,B`, CB 0x90 (R202). -/
def exec_res_2_b (s : State) : Result := resReg 2 .b s
/-- `RES 2,C`, CB 0x91 (R202). -/
def exec_res_2_c (s : State) : Result := resReg 2 .c s
/-- `RES 2,D`, CB 0x92 (R202). -/
def exec_res_2_d (s : State) : Result := resReg 2 .d s
/-- `RES 2,E`, CB 0x93 (R202). -/
def exec_res_2_e (s : State) : Result := resReg 2 .e s
/-- `RES 2,H`, CB 0x94 (R202). -/
def exec_res_2_h (s : State) : Result := resReg 2 .h s
/-- `RES 2,L`, CB 0x95 (R202). -/
def exec_res_2_l (s : State) : Result := resReg 2 .l s
/-- `RES 2,(HL)`, CB 0x96 (R203). -/
def exec_res_2_atHl (s : State) : Result := resHl 2 s
/-- `RES 2,A`, CB 0x97 (R202). -/
def exec_res_2_a (s : State) : Result := resReg 2 .a s
/-- `RES 3,B`, CB 0x98 (R202). -/
def exec_res_3_b (s : State) : Result := resReg 3 .b s
/-- `RES 3,C`, CB 0x99 (R202). -/
def exec_res_3_c (s : State) : Result := resReg 3 .c s
/-- `RES 3,D`, CB 0x9A (R202). -/
def exec_res_3_d (s : State) : Result := resReg 3 .d s
/-- `RES 3,E`, CB 0x9B (R202). -/
def exec_res_3_e (s : State) : Result := resReg 3 .e s
/-- `RES 3,H`, CB 0x9C (R202). -/
def exec_res_3_h (s : State) : Result := resReg 3 .h s
/-- `RES 3,L`, CB 0x9D (R202). -/
def exec_res_3_l (s : State) : Result := resReg 3 .l s
/-- `RES 3,(HL)`, CB 0x9E (R203). -/
def exec_res_3_atHl (s : State) : Result := resHl 3 s
/-- `RES 3,A`, CB 0x9F (R202). -/
def exec_res_3_a (s : State) : Result := resReg 3 .a s
/-- `RES 4,B`, CB 0xA0 (R202). -/
def exec_res_4_b (s : State) : Result := resReg 4 .b s
/-- `RES 4,C`, CB 0xA1 (R202). -/
def exec_res_4_c (s : State) : Result := resReg 4 .c s
/-- `RES 4,D`, CB 0xA2 (R202). -/
def exec_res_4_d (s : State) : Result := resReg 4 .d s
/-- `RES 4,E`, CB 0xA3 (R202). -/
def exec_res_4_e (s : State) : Result := resReg 4 .e s
/-- `RES 4,H`, CB 0xA4 (R202). -/
def exec_res_4_h (s : State) : Result := resReg 4 .h s
/-- `RES 4,L`, CB 0xA5 (R202). -/
def exec_res_4_l (s : State) : Result := resReg 4 .l s
/-- `RES 4,(HL)`, CB 0xA6 (R203). -/
def exec_res_4_atHl (s : State) : Result := resHl 4 s
/-- `RES 4,A`, CB 0xA7 (R202). -/
def exec_res_4_a (s : State) : Result := resReg 4 .a s
/-- `RES 5,B`, CB 0xA8 (R202). -/
def exec_res_5_b (s : State) : Result := resReg 5 .b s
/-- `RES 5,C`, CB 0xA9 (R202). -/
def exec_res_5_c (s : State) : Result := resReg 5 .c s
/-- `RES 5,D`, CB 0xAA (R202). -/
def exec_res_5_d (s : State) : Result := resReg 5 .d s
/-- `RES 5,E`, CB 0xAB (R202). -/
def exec_res_5_e (s : State) : Result := resReg 5 .e s
/-- `RES 5,H`, CB 0xAC (R202). -/
def exec_res_5_h (s : State) : Result := resReg 5 .h s
/-- `RES 5,L`, CB 0xAD (R202). -/
def exec_res_5_l (s : State) : Result := resReg 5 .l s
/-- `RES 5,(HL)`, CB 0xAE (R203). -/
def exec_res_5_atHl (s : State) : Result := resHl 5 s
/-- `RES 5,A`, CB 0xAF (R202). -/
def exec_res_5_a (s : State) : Result := resReg 5 .a s
/-- `RES 6,B`, CB 0xB0 (R202). -/
def exec_res_6_b (s : State) : Result := resReg 6 .b s
/-- `RES 6,C`, CB 0xB1 (R202). -/
def exec_res_6_c (s : State) : Result := resReg 6 .c s
/-- `RES 6,D`, CB 0xB2 (R202). -/
def exec_res_6_d (s : State) : Result := resReg 6 .d s
/-- `RES 6,E`, CB 0xB3 (R202). -/
def exec_res_6_e (s : State) : Result := resReg 6 .e s
/-- `RES 6,H`, CB 0xB4 (R202). -/
def exec_res_6_h (s : State) : Result := resReg 6 .h s
/-- `RES 6,L`, CB 0xB5 (R202). -/
def exec_res_6_l (s : State) : Result := resReg 6 .l s
/-- `RES 6,(HL)`, CB 0xB6 (R203). -/
def exec_res_6_atHl (s : State) : Result := resHl 6 s
/-- `RES 6,A`, CB 0xB7 (R202). -/
def exec_res_6_a (s : State) : Result := resReg 6 .a s
/-- `RES 7,B`, CB 0xB8 (R202). -/
def exec_res_7_b (s : State) : Result := resReg 7 .b s
/-- `RES 7,C`, CB 0xB9 (R202). -/
def exec_res_7_c (s : State) : Result := resReg 7 .c s
/-- `RES 7,D`, CB 0xBA (R202). -/
def exec_res_7_d (s : State) : Result := resReg 7 .d s
/-- `RES 7,E`, CB 0xBB (R202). -/
def exec_res_7_e (s : State) : Result := resReg 7 .e s
/-- `RES 7,H`, CB 0xBC (R202). -/
def exec_res_7_h (s : State) : Result := resReg 7 .h s
/-- `RES 7,L`, CB 0xBD (R202). -/
def exec_res_7_l (s : State) : Result := resReg 7 .l s
/-- `RES 7,(HL)`, CB 0xBE (R203). -/
def exec_res_7_atHl (s : State) : Result := resHl 7 s
/-- `RES 7,A`, CB 0xBF (R202). -/
def exec_res_7_a (s : State) : Result := resReg 7 .a s
/-- `SET 0,B`, CB 0xC0 (R204). -/
def exec_set_0_b (s : State) : Result := setBitReg 0 .b s
/-- `SET 0,C`, CB 0xC1 (R204). -/
def exec_set_0_c (s : State) : Result := setBitReg 0 .c s
/-- `SET 0,D`, CB 0xC2 (R204). -/
def exec_set_0_d (s : State) : Result := setBitReg 0 .d s
/-- `SET 0,E`, CB 0xC3 (R204). -/
def exec_set_0_e (s : State) : Result := setBitReg 0 .e s
/-- `SET 0,H`, CB 0xC4 (R204). -/
def exec_set_0_h (s : State) : Result := setBitReg 0 .h s
/-- `SET 0,L`, CB 0xC5 (R204). -/
def exec_set_0_l (s : State) : Result := setBitReg 0 .l s
/-- `SET 0,(HL)`, CB 0xC6 (R205). -/
def exec_set_0_atHl (s : State) : Result := setBitHl 0 s
/-- `SET 0,A`, CB 0xC7 (R204). -/
def exec_set_0_a (s : State) : Result := setBitReg 0 .a s
/-- `SET 1,B`, CB 0xC8 (R204). -/
def exec_set_1_b (s : State) : Result := setBitReg 1 .b s
/-- `SET 1,C`, CB 0xC9 (R204). -/
def exec_set_1_c (s : State) : Result := setBitReg 1 .c s
/-- `SET 1,D`, CB 0xCA (R204). -/
def exec_set_1_d (s : State) : Result := setBitReg 1 .d s
/-- `SET 1,E`, CB 0xCB (R204). -/
def exec_set_1_e (s : State) : Result := setBitReg 1 .e s
/-- `SET 1,H`, CB 0xCC (R204). -/
def exec_set_1_h (s : State) : Result := setBitReg 1 .h s
/-- `SET 1,L`, CB 0xCD (R204). -/
def exec_set_1_l (s : State) : Result := setBitReg 1 .l s
/-- `SET 1,(HL)`, CB 0xCE (R205). -/
def exec_set_1_atHl (s : State) : Result := setBitHl 1 s
/-- `SET 1,A`, CB 0xCF (R204). -/
def exec_set_1_a (s : State) : Result := setBitReg 1 .a s
/-- `SET 2,B`, CB 0xD0 (R204). -/
def exec_set_2_b (s : State) : Result := setBitReg 2 .b s
/-- `SET 2,C`, CB 0xD1 (R204). -/
def exec_set_2_c (s : State) : Result := setBitReg 2 .c s
/-- `SET 2,D`, CB 0xD2 (R204). -/
def exec_set_2_d (s : State) : Result := setBitReg 2 .d s
/-- `SET 2,E`, CB 0xD3 (R204). -/
def exec_set_2_e (s : State) : Result := setBitReg 2 .e s
/-- `SET 2,H`, CB 0xD4 (R204). -/
def exec_set_2_h (s : State) : Result := setBitReg 2 .h s
/-- `SET 2,L`, CB 0xD5 (R204). -/
def exec_set_2_l (s : State) : Result := setBitReg 2 .l s
/-- `SET 2,(HL)`, CB 0xD6 (R205). -/
def exec_set_2_atHl (s : State) : Result := setBitHl 2 s
/-- `SET 2,A`, CB 0xD7 (R204). -/
def exec_set_2_a (s : State) : Result := setBitReg 2 .a s
/-- `SET 3,B`, CB 0xD8 (R204). -/
def exec_set_3_b (s : State) : Result := setBitReg 3 .b s
/-- `SET 3,C`, CB 0xD9 (R204). -/
def exec_set_3_c (s : State) : Result := setBitReg 3 .c s
/-- `SET 3,D`, CB 0xDA (R204). -/
def exec_set_3_d (s : State) : Result := setBitReg 3 .d s
/-- `SET 3,E`, CB 0xDB (R204). -/
def exec_set_3_e (s : State) : Result := setBitReg 3 .e s
/-- `SET 3,H`, CB 0xDC (R204). -/
def exec_set_3_h (s : State) : Result := setBitReg 3 .h s
/-- `SET 3,L`, CB 0xDD (R204). -/
def exec_set_3_l (s : State) : Result := setBitReg 3 .l s
/-- `SET 3,(HL)`, CB 0xDE (R205). -/
def exec_set_3_atHl (s : State) : Result := setBitHl 3 s
/-- `SET 3,A`, CB 0xDF (R204). -/
def exec_set_3_a (s : State) : Result := setBitReg 3 .a s
/-- `SET 4,B`, CB 0xE0 (R204). -/
def exec_set_4_b (s : State) : Result := setBitReg 4 .b s
/-- `SET 4,C`, CB 0xE1 (R204). -/
def exec_set_4_c (s : State) : Result := setBitReg 4 .c s
/-- `SET 4,D`, CB 0xE2 (R204). -/
def exec_set_4_d (s : State) : Result := setBitReg 4 .d s
/-- `SET 4,E`, CB 0xE3 (R204). -/
def exec_set_4_e (s : State) : Result := setBitReg 4 .e s
/-- `SET 4,H`, CB 0xE4 (R204). -/
def exec_set_4_h (s : State) : Result := setBitReg 4 .h s
/-- `SET 4,L`, CB 0xE5 (R204). -/
def exec_set_4_l (s : State) : Result := setBitReg 4 .l s
/-- `SET 4,(HL)`, CB 0xE6 (R205). -/
def exec_set_4_atHl (s : State) : Result := setBitHl 4 s
/-- `SET 4,A`, CB 0xE7 (R204). -/
def exec_set_4_a (s : State) : Result := setBitReg 4 .a s
/-- `SET 5,B`, CB 0xE8 (R204). -/
def exec_set_5_b (s : State) : Result := setBitReg 5 .b s
/-- `SET 5,C`, CB 0xE9 (R204). -/
def exec_set_5_c (s : State) : Result := setBitReg 5 .c s
/-- `SET 5,D`, CB 0xEA (R204). -/
def exec_set_5_d (s : State) : Result := setBitReg 5 .d s
/-- `SET 5,E`, CB 0xEB (R204). -/
def exec_set_5_e (s : State) : Result := setBitReg 5 .e s
/-- `SET 5,H`, CB 0xEC (R204). -/
def exec_set_5_h (s : State) : Result := setBitReg 5 .h s
/-- `SET 5,L`, CB 0xED (R204). -/
def exec_set_5_l (s : State) : Result := setBitReg 5 .l s
/-- `SET 5,(HL)`, CB 0xEE (R205). -/
def exec_set_5_atHl (s : State) : Result := setBitHl 5 s
/-- `SET 5,A`, CB 0xEF (R204). -/
def exec_set_5_a (s : State) : Result := setBitReg 5 .a s
/-- `SET 6,B`, CB 0xF0 (R204). -/
def exec_set_6_b (s : State) : Result := setBitReg 6 .b s
/-- `SET 6,C`, CB 0xF1 (R204). -/
def exec_set_6_c (s : State) : Result := setBitReg 6 .c s
/-- `SET 6,D`, CB 0xF2 (R204). -/
def exec_set_6_d (s : State) : Result := setBitReg 6 .d s
/-- `SET 6,E`, CB 0xF3 (R204). -/
def exec_set_6_e (s : State) : Result := setBitReg 6 .e s
/-- `SET 6,H`, CB 0xF4 (R204). -/
def exec_set_6_h (s : State) : Result := setBitReg 6 .h s
/-- `SET 6,L`, CB 0xF5 (R204). -/
def exec_set_6_l (s : State) : Result := setBitReg 6 .l s
/-- `SET 6,(HL)`, CB 0xF6 (R205). -/
def exec_set_6_atHl (s : State) : Result := setBitHl 6 s
/-- `SET 6,A`, CB 0xF7 (R204). -/
def exec_set_6_a (s : State) : Result := setBitReg 6 .a s
/-- `SET 7,B`, CB 0xF8 (R204). -/
def exec_set_7_b (s : State) : Result := setBitReg 7 .b s
/-- `SET 7,C`, CB 0xF9 (R204). -/
def exec_set_7_c (s : State) : Result := setBitReg 7 .c s
/-- `SET 7,D`, CB 0xFA (R204). -/
def exec_set_7_d (s : State) : Result := setBitReg 7 .d s
/-- `SET 7,E`, CB 0xFB (R204). -/
def exec_set_7_e (s : State) : Result := setBitReg 7 .e s
/-- `SET 7,H`, CB 0xFC (R204). -/
def exec_set_7_h (s : State) : Result := setBitReg 7 .h s
/-- `SET 7,L`, CB 0xFD (R204). -/
def exec_set_7_l (s : State) : Result := setBitReg 7 .l s
/-- `SET 7,(HL)`, CB 0xFE (R205). -/
def exec_set_7_atHl (s : State) : Result := setBitHl 7 s
/-- `SET 7,A`, CB 0xFF (R204). -/
def exec_set_7_a (s : State) : Result := setBitReg 7 .a s

end Sys2Proof.Machine
end

