-- ==== Sys2Proof/Machine/System.lean ====
section
/-! DEFINITION. The meanings of the system instructions, the prefix and the unassigned opcodes (46_misc_system.md). -/

namespace Sys2Proof.Machine

/-- `NOP` (R230). -/
def nop (s : State) : Result := .next (s.retire 1 1)

/-- `HALT` (R231). -/
def halt (s : State) : Result := .next ((s.setHalted true).retire 1 1)

/-- `STOP`, by the parameter `STOP_BEHAVIOUR` (R233). -/
def stop (s : State) : Result :=
  match s.params.stopBehaviour with
  | .nop2 => .next (s.retire 2 1)
  | .halt => .next ((s.setHalted true).retire 2 1)
  | .fault => .fault (.decodeFault 0x10 s.cpu.pc)

/-- `DI`: effective at once (R234). -/
def di (s : State) : Result := .next ((s.setIme false).retire 1 1)

/-- `EI`: effective at once (R235). -/
def ei (s : State) : Result := .next ((s.setIme true).retire 1 1)

/-- `PREFIX CB` (R236). -/
def prefixCb (s : State) : Result := .next ((s.setCbPending true).retire 1 1)

/-- An unassigned opcode: "raise DecodeFault(opcode, PC)" (R237). -/
def unassigned (op : Byte) (s : State) : Result := .fault (.decodeFault op s.cpu.pc)

/-- `NOP`, 0x00 (R230). -/
def exec_nop (s : State) : Result := nop s
/-- `STOP`, 0x10 (R233). -/
def exec_stop (_n : Byte) (s : State) : Result := stop s
/-- `HALT`, 0x76 (R231). -/
def exec_halt (s : State) : Result := halt s
/-- `PREFIX CB`, 0xCB (R236). -/
def exec_prefix_cb (s : State) : Result := prefixCb s
/-- `(unassigned)`, 0xD3 (R237). -/
def exec_unassigned_d3 (s : State) : Result := unassigned 0xD3 s
/-- `(unassigned)`, 0xDB (R237). -/
def exec_unassigned_db (s : State) : Result := unassigned 0xDB s
/-- `(unassigned)`, 0xDD (R237). -/
def exec_unassigned_dd (s : State) : Result := unassigned 0xDD s
/-- `(unassigned)`, 0xE3 (R237). -/
def exec_unassigned_e3 (s : State) : Result := unassigned 0xE3 s
/-- `(unassigned)`, 0xE4 (R237). -/
def exec_unassigned_e4 (s : State) : Result := unassigned 0xE4 s
/-- `(unassigned)`, 0xEB (R237). -/
def exec_unassigned_eb (s : State) : Result := unassigned 0xEB s
/-- `(unassigned)`, 0xEC (R237). -/
def exec_unassigned_ec (s : State) : Result := unassigned 0xEC s
/-- `(unassigned)`, 0xED (R237). -/
def exec_unassigned_ed (s : State) : Result := unassigned 0xED s
/-- `DI`, 0xF3 (R234). -/
def exec_di (s : State) : Result := di s
/-- `(unassigned)`, 0xF4 (R237). -/
def exec_unassigned_f4 (s : State) : Result := unassigned 0xF4 s
/-- `EI`, 0xFB (R235). -/
def exec_ei (s : State) : Result := ei s
/-- `(unassigned)`, 0xFC (R237). -/
def exec_unassigned_fc (s : State) : Result := unassigned 0xFC s
/-- `(unassigned)`, 0xFD (R237). -/
def exec_unassigned_fd (s : State) : Result := unassigned 0xFD s

end Sys2Proof.Machine
end

