-- ==== Sys2Proof/Machine/HostInterface.lean ====
section
/-! DEFINITION. The serial agent and the host: inputs of the machine (00_scope.md R6, R7; 60_exceptions.md R326, R330,
R331). -/

namespace Sys2Proof.Machine

/-- `SerialStep`: "if SerialStep_env(t) then Request(3)" (00_scope.md R7). The head of `serialInput` is this tick's
input; an empty list is the default environment, which never requests. -/
def serialStep (s : State) : State :=
  match s.serialInput with
  | [] => s
  | asks :: rest =>
    let s1 := { s with serialInput := rest }
    if asks then s1.request 3 else s1

/-- One action of the host (00_scope.md R6): `write_byte` is the `MemWrite` of the CPU, "with the same mode gating". -/
def hostAct (s : State) : HostAction → State
  | .requestInterrupt source => s.request source
  | .writeByte addr v => memWrite s addr v

/-- The host's actions between this tick and the next, in order (00_scope.md R6). -/
def hostStep (s : State) : State :=
  match s.hostInput with
  | [] => s
  | actions :: rest => actions.foldl hostAct { s with hostInput := rest }

/-- `read_byte(addr)`, the host's `n`-th read between two ticks (00_scope.md R6). -/
def hostReadByte (n : Nat) (s : State) (addr : Word) : Byte := memRead (.host n) s addr

/-- `frame_ready()` (60_exceptions.md R326). -/
def frameReady (s : State) : Bool := s.ppu.frameReady

/-- Bytes put from a key upwards: what a loader does with an image. -/
def loadBytes (m : Memory) (k : Nat) : List Byte → Memory
  | [] => m
  | v :: rest => loadBytes (writeByte m k v) (k + 1) rest

/-- "The host may also load `ROM`, `BOOT_ROM`" before the first tick (00_scope.md R6): a ROM image from 0x0000 up, at
most 32768 bytes. -/
def loadRom (s : State) (image : List Byte) : State := { s with mem := loadBytes s.mem 0 (image.take 0x8000) }

/-- The host's load of a boot ROM, at most 256 bytes (20_memory.md R47). -/
def loadBootRom (s : State) (image : List Byte) : State :=
  { s with bootRom := some (loadBytes [] 0 (image.take 0x100)) }

end Sys2Proof.Machine
end

