-- ==== Sys2Proof/Machine/PpuStep.lean ====
section
/-! DEFINITION. The PPU's step: OAM search, pixel pipeline, mode machine and STAT line (60_exceptions.md R300 to R326).
The PPU reads VRAM and OAM directly and is never gated (20_memory.md R60). -/

namespace Sys2Proof.Machine

def State.setPpu (s : State) (p : Ppu) : State := { s with ppu := p }

/-- A VRAM byte at an address as the CPU would name it; outside VRAM a free value of Config (log entry 6). -/
def vramByte (s : State) (addr : Int) : Byte :=
  if 0x8000 ≤ addr ∧ addr < 0xA000 then readByte s.mem addr.toNat else Config.vramOutside s.drawCount addr

/-- The OAM byte at an offset (20_memory.md R51). -/
def oamByte (s : State) (offset : Nat) : Byte := readByte s.mem (0xFE00 + offset)

/-- Palette register entry `i`: "the shade `reg[2i+1 : 2i]`" (10_state.md R35). -/
def paletteShade (reg : Byte) (i : Colour) : Colour := reg.extractLsb' (2 * i.toNat) 2

/-- A colour index from bit `b` of the high and the low bit-plane (R313). -/
def planeColour (hi lo : Byte) (b : Nat) : Colour := BitVec.ofBool (hi.getLsbD b) ++ BitVec.ofBool (lo.getLsbD b)

/-! OAM search. -/

/-- "h <- 16 if LCDC[2] = 1 else 8" (R305). -/
def spriteHeight (p : Ppu) : Nat := if p.lcdc.getLsbD 2 then 16 else 8

/-- "LY + 16 >= Y and LY + 16 < Y + h", integer arithmetic (R305). -/
def spriteOnLine (s : State) (k : Fin 40) : Bool :=
  let y := (oamByte s (4 * k.val)).toNat
  decide (y ≤ s.ppu.ly.toNat + 16) && decide (s.ppu.ly.toNat + 16 < y + spriteHeight s.ppu)

/-- "(k, OAM[4k + 1] - 8)" (R305). -/
def visibleEntry (s : State) (k : Fin 40) : VisibleSprite :=
  { index := k, screenX := ((oamByte s (4 * k.val + 1)).toNat : Int) - 8 }

/-- Put a sprite before the first that is not left of it: an earlier OAM entry stays before a later one of equal x. -/
def insertSprite (v : VisibleSprite) : List VisibleSprite → List VisibleSprite
  | [] => [v]
  | w :: rest => if v.screenX ≤ w.screenX then v :: w :: rest else w :: insertSprite v rest

/-- "sorted by ascending screen_x, ties keeping OAM order (stable)" (R305). -/
def sortSprites : List VisibleSprite → List VisibleSprite
  | [] => []
  | v :: rest => insertSprite v (sortSprites rest)

/-- The first ten entries on the line, in OAM order (R305). -/
def foundSprites (s : State) : List VisibleSprite :=
  (((List.finRange 40).filter (spriteOnLine s)).take 10).map (visibleEntry s)

/-- `OamSearchRun` (R305). -/
def oamSearchRun (s : State) : State := s.setPpu { s.ppu with visible := sortSprites (foundSprites s) }

/-- `PixelTransferInit` (R306). -/
def pixelTransferInit (s : State) : State :=
  s.setPpu { s.ppu with bgFifo := [], oamFifo := [], drawX := 0, discardLeft := (s.ppu.scx &&& 7).toNat, fetchN := 0,
                        windowActive := false }

/-! The pixel pipeline. -/

/-- "LCDC[5] = 1 and LY >= WY and draw_x + 7 >= WX", once per line (R310 step 1, R312). -/
def windowTriggers (p : Ppu) : Bool :=
  !p.windowActive && p.lcdc.getLsbD 5 && decide (p.wy.toNat ≤ p.ly.toNat) && decide (p.wx.toNat ≤ p.drawX + 7)

/-- Step 1 of R310. -/
def startWindow (s : State) : State :=
  if windowTriggers s.ppu then
    s.setPpu { s.ppu with bgFifo := [], windowActive := true, fetchN := 0, discardLeft := 0 }
  else s

/-- The tile map: bit 6 of LCDC for the window, bit 3 for the background (R313). -/
def mapBase (p : Ppu) : Nat :=
  if p.lcdc.getLsbD (if p.windowActive then 6 else 3) then 0x9C00 else 0x9800

/-- The tile column (R313). -/
def tileColumn (p : Ppu) : Nat :=
  if p.windowActive then p.fetchN % 32 else (p.scx.toNat / 8 + p.fetchN) % 32

/-- The row inside the map, in pixels (R313). -/
def tileY (p : Ppu) : Nat :=
  if p.windowActive then p.windowLineInternal.toNat else (p.scy.toNat + p.ly.toNat) % 256

/-- "0x8000 + 16 * id if LCDC[4] = 1, 0x9000 + 16 * sext(id) if LCDC[4] = 0" (R313). -/
def tileData (p : Ppu) (id : Byte) : Int :=
  if p.lcdc.getLsbD 4 then 0x8000 + 16 * (id.toNat : Int) else 0x9000 + 16 * id.toInt

/-- The eight pixels of `FetchTileRow`, the leftmost from bit 7 (R313). -/
def tileRow (s : State) : List Colour :=
  let id := vramByte s ((mapBase s.ppu + 32 * (tileY s.ppu / 8) + tileColumn s.ppu : Nat) : Int)
  let addr := tileData s.ppu id + ((2 * (tileY s.ppu % 8) : Nat) : Int)
  let lo := vramByte s addr
  let hi := vramByte s (addr + 1)
  (List.range 8).map (fun i => planeColour hi lo (7 - i))

/-- Step 2 of R310: a tile row "whenever its size drops to ≤8". -/
def refillBackground (s : State) : State :=
  if s.ppu.bgFifo.length ≤ 8 then
    s.setPpu { s.ppu with bgFifo := s.ppu.bgFifo ++ tileRow s, fetchN := s.ppu.fetchN + 1 }
  else s

/-- The row of the sprite's pixels in its tile data, an integer "used unchecked" (R315). -/
def spriteRow (p : Ppu) (y attr : Byte) : Int :=
  let row : Int := (p.ly.toNat : Int) + 16 - y.toNat
  if attr.getLsbD 6 then (spriteHeight p : Int) - 1 - row else row

/-- "if h = 16: tile <- tile & 0xFE" (R315). -/
def spriteTile (p : Ppu) (tile : Byte) : Byte := if spriteHeight p = 16 then tile &&& 0xFE else tile

/-- The eight pixels of OAM entry `k` on this line (R315). -/
def spritePixels (s : State) (k : Fin 40) : List OamPixel :=
  let y := oamByte s (4 * k.val)
  let tile := spriteTile s.ppu (oamByte s (4 * k.val + 2))
  let attr := oamByte s (4 * k.val + 3)
  let addr := 0x8000 + 16 * (tile.toNat : Int) + 2 * spriteRow s.ppu y attr
  let lo := vramByte s addr
  let hi := vramByte s (addr + 1)
  (List.range 8).map (fun i =>
    { colour := planeColour hi lo (if attr.getLsbD 5 then i else 7 - i), palette := attr.getLsbD 4,
      priority := attr.getLsbD 7 })

/-- A pixel "enters a slot only if the slot holds colour 0" (R315). -/
def mergePixels : List OamPixel → List OamPixel → List OamPixel
  | slot :: slots, px :: pixels => (if slot.colour = 0 then px else slot) :: mergePixels slots pixels
  | slots, [] => slots
  | [], _ :: _ => []

/-- `oam_fifo` padded with transparent pixels to eight (R315). -/
def padOamFifo (fifo : List OamPixel) : List OamPixel :=
  fifo ++ List.replicate (8 - fifo.length) { colour := 0, palette := false, priority := false }

/-- `MergeSprite(k)` (R315). -/
def mergeSprite (s : State) (k : Fin 40) : State :=
  s.setPpu { s.ppu with oamFifo := mergePixels (padOamFifo s.ppu.oamFifo) (spritePixels s k) }

/-- Step 5 of R310: every visible sprite whose screen x equals the draw cursor, in list order (R314). -/
def mergeSprites (s : State) : State :=
  if s.ppu.lcdc.getLsbD 1 then
    (s.ppu.visible.filter (fun v => v.screenX == (s.ppu.drawX : Int))).foldl (fun t v => mergeSprite t v.index) s
  else s

/-- Step 6 of R310: the shade of a background colour index and the front of `oam_fifo` (R316). -/
def mixShade (p : Ppu) (bg : Colour) : Colour :=
  match p.oamFifo with
  | [] => paletteShade p.bgp bg
  | px :: _ =>
    if px.colour = 0 ∨ (px.priority = true ∧ bg ≠ 0) then paletteShade p.bgp bg
    else paletteShade (if px.palette then p.obp1 else p.obp0) px.colour

/-- Steps 6 and 7 of R310. A row beyond 143 holds no pixel: no run reaches PixelTransfer there (log entry 13). -/
def commitPixel (s : State) (bg : Colour) : State :=
  let s1 :=
    if s.ppu.ly.toNat < 144 then { s with frame := writePixel s.frame s.ppu.drawX s.ppu.ly.toNat (mixShade s.ppu bg) }
    else s
  s1.setPpu { s.ppu with oamFifo := s.ppu.oamFifo.tail, drawX := s.ppu.drawX + 1 }

/-- `PixelIteration` (R310). `bg_fifo` "is never empty at step 3" (R317). -/
def pixelIteration (s : State) : State :=
  let s1 := refillBackground (startWindow s)
  match s1.ppu.bgFifo with
  | [] => s1
  | bg :: rest =>
    let s2 := s1.setPpu { s1.ppu with bgFifo := rest }
    if 0 < s2.ppu.discardLeft then s2.setPpu { s2.ppu with discardLeft := s2.ppu.discardLeft - 1 }
    else commitPixel (mergeSprites s2) bg

/-- "repeat PIXEL_ITERS_PER_TICK times: if draw_x < 160: PixelIteration()" (R300). -/
def pixelIterations : Nat → State → State
  | 0, s => s
  | n + 1, s => pixelIterations n (if s.ppu.drawX < 160 then pixelIteration s else s)

/-! The mode machine. -/

/-- The OamSearch case of R300. -/
def oamSearchMode (s : State) : State :=
  if s.ppu.modeCycleCounter = 20 then
    let s1 := pixelTransferInit (oamSearchRun s)
    s1.setPpu { s1.ppu with mode := .pixelTransfer, modeCycleCounter := 0 }
  else s

/-- The end of PixelTransfer: `window_line_internal` counts the lines the window was drawn on (R300, R318). -/
def endPixelTransfer (s : State) : State :=
  s.setPpu { s.ppu with
    windowLineInternal := if s.ppu.windowActive then s.ppu.windowLineInternal + 1 else s.ppu.windowLineInternal
    mode := .hBlank, modeCycleCounter := 0 }

/-- The PixelTransfer case of R300. -/
def pixelTransferMode (s : State) : State :=
  let s1 := pixelIterations s.params.pixelItersPerTick s
  if s1.ppu.drawX = 160 ∧ 43 ≤ s1.ppu.modeCycleCounter then endPixelTransfer s1 else s1

/-- The HBlank case of R300: VBlank is requested in the step that makes LY 144 (R320). -/
def hBlankMode (s : State) : State :=
  if s.ppu.lineCycle = 114 then
    let p := { s.ppu with lineCycle := 0, modeCycleCounter := 0, ly := s.ppu.ly + 1 }
    if p.ly = 144 then (s.setPpu { p with mode := .vBlank }).request 0 else s.setPpu { p with mode := .oamSearch }
  else s

/-- The VBlank case of R300: the frame is complete when LY wraps (R326). -/
def vBlankMode (s : State) : State :=
  if s.ppu.lineCycle = 114 then
    let p := { s.ppu with lineCycle := 0, modeCycleCounter := 0, ly := s.ppu.ly + 1 }
    if p.ly = 154 then s.setPpu { p with ly := 0, mode := .oamSearch, windowLineInternal := 0, frameReady := true }
    else s.setPpu p
  else s

/-- The case analysis of R300. -/
def modeStep (s : State) : State :=
  match s.ppu.mode with
  | .oamSearch => oamSearchMode s
  | .pixelTransfer => pixelTransferMode s
  | .hBlank => hBlankMode s
  | .vBlank => vBlankMode s

/-- The combined STAT condition, "the OR of four independently-enabled conditions" (R322). -/
def statLine (p : Ppu) : Bool :=
  (p.statEn.getLsbD 3 && p.ly == p.lyc) || (p.statEn.getLsbD 0 && p.mode == .hBlank)
    || (p.statEn.getLsbD 1 && p.mode == .vBlank) || (p.statEn.getLsbD 2 && p.mode == .oamSearch)

/-- `StatUpdate`: a 0 to 1 transition requests source 1 (R322). -/
def statUpdate (s : State) : State :=
  let line := statLine s.ppu
  let s1 := if line = true ∧ s.ppu.statIrqLatched = false then s.request 1 else s
  s1.setPpu { s1.ppu with statIrqLatched := line }

/-- The counters at the start of a step (R300). -/
def countPpu (s : State) : State :=
  s.setPpu { s.ppu with frameReady := false, lineCycle := s.ppu.lineCycle + 1,
                        modeCycleCounter := s.ppu.modeCycleCounter + 1 }

/-- `PpuStep` (R300). -/
def ppuStep (s : State) : State := statUpdate (modeStep (countPpu s))

end Sys2Proof.Machine
end

