-- ==== Sys2Proof/Machine/TimerStep.lean ====
section
/-! DEFINITION. The timer's step (60_exceptions.md R280 to R283). -/

namespace Sys2Proof.Machine

/-- "[9, 3, 5, 7][TAC[1:0]]" (R280, 10_state.md R29). -/
def timerBit (tac : Byte) : Nat :=
  match (tac.extractLsb' 0 2).toNat with
  | 0 => 9
  | 1 => 3
  | 2 => 5
  | _ => 7

/-- `TimaTick`: the overflow is detected before the increment (R282). -/
def timaTick (s : State) : State :=
  if s.timer.tima = 0xFF then ({ s with timer := { s.timer with tima := s.timer.tma } }).request 2
  else { s with timer := { s.timer with tima := s.timer.tima + 1 } }

/-- "full_div <- (full_div + 4) mod 2^16" (R280). -/
def advanceDiv (s : State) : State := { s with timer := { s.timer with fullDiv := s.timer.fullDiv + 4 } }

/-- Sample the selected bit and tick TIMA on its falling edge (R280). -/
def sampleTimer (s : State) : State :=
  let cur := s.timer.fullDiv.getLsbD (timerBit s.timer.tac)
  let s1 := if s.timer.timerPrev = true ∧ cur = false then timaTick s else s
  { s1 with timer := { s1.timer with timerPrev := cur } }

/-- `TimerStep`: while TAC[2] = 0 nothing is sampled (R280). -/
def timerStep (s : State) : State :=
  let s1 := advanceDiv s
  if s1.timer.tac.getLsbD 2 then sampleTimer s1 else s1

end Sys2Proof.Machine
end

