-- ==== Sys2Proof/Machine/Tick.lean ====
section
/-! DEFINITION. The CPU's step (60_exceptions.md R250) and the tick (00_scope.md R2). -/

namespace Sys2Proof.Machine

/-- The table the next fetch looks its byte up in (30_encoding.md R80). -/
def State.fetchTable (s : State) : Table := if s.cpu.cbPrefixPending then .cb else .main

/-- The three bytes from PC upwards, each a `MemRead` (30_encoding.md R73, R74). Operand bytes an opcode does not have
are read and dropped: "A read changes no state" (20_memory.md R41). -/
def State.fetchBytes (s : State) : List Byte :=
  [memRead .opcode s s.cpu.pc, memRead .operand1 s (s.cpu.pc + 1), memRead .operand2 s (s.cpu.pc + 2)]

/-- The instruction at PC. -/
def State.fetched (s : State) : Instr :=
  decodeFetched s.fetchTable (memRead .opcode s s.cpu.pc) (memRead .operand1 s (s.cpu.pc + 1))
    (memRead .operand2 s (s.cpu.pc + 2))

/-- Step 5 of R250: normal fetch and execute. The pending prefix is cleared before the instruction runs. -/
def fetchExecute (s : State) : Result := exec s.fetched (s.setCbPending false)

/-- Step 4 and step 5 of R250, at a fetch point: interrupt service beats fetch (R265). -/
def fetchPoint (s : State) : Result :=
  if s.cpu.ime = true ∧ s.pending ≠ 0 then .next s.service else fetchExecute s

/-- Steps 2 and 3 of R250. -/
def State.countDown (s : State) : State :=
  (s.setHalted false).setCycles (s.cpu.cyclesRemaining - 1)

/-- `CpuStep` (R250). -/
def cpuStep (s : State) : Result :=
  if s.cpu.halted = true ∧ s.pending = 0 then .next s
  else if s.countDown.cpu.cyclesRemaining ≠ 0 then .next s.countDown
  else fetchPoint s.countDown

/-- The three agents after the CPU, in the order of 00_scope.md R2. -/
def afterCpu (s : State) : State := serialStep (timerStep (ppuStep s))

/-- `Tick(s)` (00_scope.md R2): a fault of `CpuStep` ends the tick and the run (R9). -/
def tick (s : State) : Result :=
  match cpuStep s with
  | .next s1 => .next (afterCpu s1)
  | .fault r => .fault r
  | .refused r => .refused r

/-- The end of a step of the model: the tick's number goes up (so that the free values of the next tick are new ones) and
the host acts before the next tick (00_scope.md R6; log entries 5 and 8). -/
def endOfTick (s : State) : State := hostStep { s with drawCount := s.drawCount + 1 }

/-- One tick and the host's actions after it. A machine whose `PIXEL_ITERS_PER_TICK` is below 2 is refused (R301). -/
def tickAndHost (s : State) : Result :=
  if s.params.pixelItersPerTick < 2 then .refused .pixelRateBelowTwo
  else
    match tick s with
    | .next s1 => .next (endOfTick s1)
    | .fault r => .fault r
    | .refused r => .refused r

/-- "The state before the faulting `CpuStep`, except `cycles_remaining`, which that step decremented" (R240): what the
host finds after a fault in a step from `s`. -/
def faultedState (s : State) : State := s.setCycles (s.cpu.cyclesRemaining - 1)

/-! Placing an instruction where the next step fetches it (for `State.withFetchWord`). -/

/-- Whether a byte placed at an address is what a fetch there reads. -/
def fetchable (s : State) (addr : Word) : Bool :=
  match regionOf addr with
  | .rom => true
  | .vram => !s.ppu.mode.closesVram
  | .wram => true
  | .echo => true
  | .oam => !s.ppu.mode.closesOam
  | .hram => true
  | .extRam => false
  | .gap => false
  | .io => false
  | .ie => false

/-- Place a byte as the loader of a program would, in the boot ROM where that is what a fetch reads. -/
def placeByte (s : State) (addr : Word) (v : Byte) : State :=
  match s.bootRom with
  | some boot =>
    if s.bootOverlay = true ∧ addr.toNat < 0x100 then { s with bootRom := some (writeByte boot addr.toNat v) }
    else s.storeCell addr v
  | none => s.storeCell addr v

/-- The next step is a fetch point that fetches from table `t`: not halted, one cycle left, no interrupt pending with
`ime` set. -/
def atFetchPoint (s : State) (t : Table) : State :=
  let s1 := ((s.setHalted false).setCycles 1).setCbPending (t == .cb)
  if s.cpu.ime = true ∧ s.pending ≠ 0 then s1.setIf 0 else s1

/-- PC where three placed bytes can be fetched: PC itself where it can, else the start of work RAM. -/
def placedPc (s : State) : Word :=
  if fetchable s s.cpu.pc && fetchable s (s.cpu.pc + 1) && fetchable s (s.cpu.pc + 2) then s.cpu.pc else 0xC000

/-- The bytes of a table word, placed at PC, with everything set so that the very next step runs them. -/
def placeWord (s : State) (nbits w : Nat) : State :=
  let v := w % 2 ^ nbits
  let b0 : Byte := BitVec.ofNat 8 v
  let b1 : Byte := BitVec.ofNat 8 (v / 256)
  let b2 : Byte := BitVec.ofNat 8 (v / 65536)
  let pc := placedPc s
  let put (t : State) (x y z : Byte) : State := placeByte (placeByte (placeByte t pc x) (pc + 1) y) (pc + 2) z
  if 16 ≤ nbits ∧ b0 = 0xCB then put ((atFetchPoint s .cb).setPc pc) b1 0 0
  else put ((atFetchPoint s .main).setPc pc) b0 b1 b2

end Sys2Proof.Machine
end

