-- ==== Sys2Proof/Machine/Step.lean ====
section
/-! DEFINITION. The step of the machine. -/

namespace Sys2Proof.Machine

/-- One step: one tick and the host's actions before the next (Machine/Tick.lean). -/
def step : State → Host.Outcome State Fault Refusal := tickAndHost

/-- The state with an instruction of spec/opcode_table.json placed where `step` fetches its next instruction, so that the
very next step runs it. A CB-table instruction (a word of 16 bits whose first byte is 0xCB) is placed as its CB byte with
`cb_prefix_pending` set, which is what its prefix leaves. It stands for the host's load of a program (log entry 2). -/
def State.withFetchWord (s : State) (nbits w : Nat) : State := placeWord s nbits w

end Sys2Proof.Machine
end

