-- ==== Sys2Proof/Safety.lean ====
section
/-! DEFINITION. The terms claims are stated in: results and flags, what an instruction may write, the invariant of the
machine, and safe runs. -/

namespace Sys2Proof.Machine

/-! Results. -/

/-- The F byte of four flags: Z, N, H, C in bits 7, 6, 5, 4, the low nibble 0 (10_state.md R11). -/
def flagByte (z n h c : Bool) : Byte := BitVec.ofNat 8 (128 * z.toNat + 64 * n.toNat + 32 * h.toNat + 16 * c.toNat)

/-- The end of an instruction: memory and devices as in `m`, the CPU as `c`, then `PC <- pc; cost <- cost`. -/
def State.ends (m : State) (c : Cpu) (pc : Word) (cost : Byte) : State :=
  { m with cpu := { c with pc := pc, cyclesRemaining := cost } }

/-- The second operand of an ALU instruction, with the length and cost of its form (42_alu8.md section 2). -/
inductive AluOperand (op : AluOp) (s : State) : Instr → Byte → Word → Byte → Prop
  | reg (r : Reg8) : AluOperand op s (Instr.aluReg op r) (s.cpu.reg r) 1 1
  | atHl : AluOperand op s (Instr.aluHl op) (memRead .data s s.cpu.hl) 1 2
  | imm (n : Byte) : AluOperand op s (Instr.aluImm op n) n 2 2

/-- The table of 44_rotate_shift_bit.md section 2: the result and the carry out. -/
def rotated (op : RotOp) (v : Byte) (carry : Bool) : Byte × Bool :=
  let cf : Byte := BitVec.ofNat 8 carry.toNat
  match op with
  | .rlc => ((v <<< 1) ||| (v >>> 7), v.getLsbD 7)
  | .rrc => ((v >>> 1) ||| (v <<< 7), v.getLsbD 0)
  | .rl => ((v <<< 1) ||| cf, v.getLsbD 7)
  | .rr => ((v >>> 1) ||| (cf <<< 7), v.getLsbD 0)
  | .sla => (v <<< 1, v.getLsbD 7)
  | .sra => ((v >>> 1) ||| (v &&& 0x80), v.getLsbD 0)
  | .swap => ((v <<< 4) ||| (v >>> 4), false)
  | .srl => (v >>> 1, v.getLsbD 0)

/-- The two-digit decimal byte of a number below 100 (42_alu8.md R166). -/
def bcdByte (n : Nat) : Byte := BitVec.ofNat 8 (16 * (n / 10) + n % 10)

/-- The shade a palette register gives a colour index, "`reg[2i+1 : 2i]`" (10_state.md R35). -/
def shadeOf (reg : Byte) (i : Colour) : Colour := BitVec.ofNat 2 (reg.toNat / 4 ^ i.toNat)

/-! The fields of an opcode byte. -/

/-- The 3-bit register field (10_state.md R13); 6 is the byte at HL. -/
def regField : Reg8 → Nat
  | .b => 0
  | .c => 1
  | .d => 2
  | .e => 3
  | .h => 4
  | .l => 5
  | .a => 7

/-- The 2-bit pair field of loads, `INC`, `DEC`, `ADD HL` (10_state.md R14). -/
def pairField : Pair → Nat
  | .bc => 0
  | .de => 1
  | .hl => 2
  | .sp => 3

/-- The 2-bit pair field of `PUSH` and `POP` (10_state.md R14). -/
def stackPairField : StackPair → Nat
  | .bc => 0
  | .de => 1
  | .hl => 2
  | .af => 3

/-- The 2-bit condition field (10_state.md R19). -/
def condField : Cond → Nat
  | .nz => 0
  | .z => 1
  | .nc => 2
  | .c => 3

/-- The operation number of the ALU group (42_alu8.md section 2). -/
def aluField : AluOp → Nat
  | .add => 0
  | .adc => 1
  | .sub => 2
  | .sbc => 3
  | .and => 4
  | .xor => 5
  | .or => 6
  | .cp => 7

/-- The operation number of the rotate group (44_rotate_shift_bit.md, CB byte layout). -/
def rotField : RotOp → Nat
  | .rlc => 0
  | .rrc => 1
  | .rl => 2
  | .rr => 3
  | .sla => 4
  | .sra => 5
  | .swap => 6
  | .srl => 7

/-- The byte `xx yyy zzz` of three fields (30_encoding.md R71). -/
def opcodeOf (x y z : Nat) : Byte := BitVec.ofNat 8 (64 * x + 8 * y + z)

/-! Fetch points. -/

/-- The next `CpuStep` is a fetch point: it neither idles nor only counts down (60_exceptions.md R250). -/
def AtFetch (s : State) : Prop := ¬(s.cpu.halted = true ∧ s.pending = 0) ∧ s.cpu.cyclesRemaining = 1

/-- The state an instruction runs on at a fetch point: steps 2, 3 and 5 of R250 before the handler. -/
def toFetch (s : State) : State :=
  { s with cpu := { s.cpu with halted := false, cyclesRemaining := 0, cbPrefixPending := false } }

/-- The main-table bytes without a handler (30_encoding.md R78). -/
def unassignedBytes : List Byte := [0xD3, 0xDB, 0xDD, 0xE3, 0xE4, 0xEB, 0xEC, 0xED, 0xF4, 0xFC, 0xFD]

/-! What a store may change. -/

/-- The address of a byte, or of the register, that an address names: the echo names the work RAM byte it mirrors
(20_memory.md R50). -/
def resolved (addr : Word) : Nat := cellKey addr

/-- Whether a write to `stored` may change what a read of `addr` returns: the two name the same byte or register, or the
write is to LYC, which STAT compares with LY (20_memory.md R52), or it is the boot-disable write, which uncovers
0x0000 to 0x00FF (R47). -/
def mayChange (stored addr : Word) : Bool :=
  resolved stored == resolved addr || (stored == 0xFF45 && addr == 0xFF41) || (stored == 0xFF50 && decide (addr.toNat < 0x100))

/-- The two addresses of a 16-bit store (20_memory.md R43). -/
def wordAt (addr : Word) : List Word := [addr, addr + 1]

/-- The addresses of the bytes an instruction stores to, in a state whose PC is at its opcode byte: none where no rule of
40_load8.md to 46_misc_system.md writes memory. -/
def storedAt (i : Instr) (s : State) : List Word :=
  match i with
  | .ld_atHl_b | .ld_atHl_c | .ld_atHl_d | .ld_atHl_e | .ld_atHl_h | .ld_atHl_l | .ld_atHl_a | .ld_atHl_d8 _
  | .ld_atHlInc_a | .ld_atHlDec_a | .inc_atHl | .dec_atHl
  | .rlc_atHl | .rrc_atHl | .rl_atHl | .rr_atHl | .sla_atHl | .sra_atHl | .swap_atHl | .srl_atHl
  | .res_0_atHl | .res_1_atHl | .res_2_atHl | .res_3_atHl | .res_4_atHl | .res_5_atHl | .res_6_atHl | .res_7_atHl
  | .set_0_atHl | .set_1_atHl | .set_2_atHl | .set_3_atHl | .set_4_atHl | .set_5_atHl | .set_6_atHl | .set_7_atHl =>
    [s.cpu.hl]
  | .ld_atBc_a => [s.cpu.bc]
  | .ld_atDe_a => [s.cpu.de]
  | .ld_atA16_a nn => [nn]
  | .ldh_atA8_a n => [highPage n]
  | .ld_atC_a => [highPage s.cpu.c]
  | .ld_atA16_sp nn => wordAt nn
  | .push_bc | .push_de | .push_hl | .push_af | .call_a16 _
  | .rst_00 | .rst_08 | .rst_10 | .rst_18 | .rst_20 | .rst_28 | .rst_30 | .rst_38 => wordAt (s.cpu.sp - 2)
  | .call_nz_a16 _ => if s.cpu.holds .nz then wordAt (s.cpu.sp - 2) else []
  | .call_z_a16 _ => if s.cpu.holds .z then wordAt (s.cpu.sp - 2) else []
  | .call_nc_a16 _ => if s.cpu.holds .nc then wordAt (s.cpu.sp - 2) else []
  | .call_c_a16 _ => if s.cpu.holds .c then wordAt (s.cpu.sp - 2) else []
  | _ => []

/-- An address at which a byte written is the byte read back: work RAM and its echo, HRAM, and VRAM and OAM while they
are open (20_memory.md R48, R50, R51, R56). -/
def plainByte (s : State) (addr : Word) : Bool :=
  match regionOf addr with
  | .wram => true
  | .echo => true
  | .hram => true
  | .vram => !s.ppu.mode.closesVram
  | .oam => !s.ppu.mode.closesOam
  | _ => false

/-- The instructions that set PC themselves (30_encoding.md R72). -/
def setsPc : Instr → Bool
  | .jp_a16 _ | .jp_nz_a16 _ | .jp_z_a16 _ | .jp_nc_a16 _ | .jp_c_a16 _ | .jp_hl => true
  | .jr_e _ | .jr_nz_e _ | .jr_z_e _ | .jr_nc_e _ | .jr_c_e _ => true
  | .call_a16 _ | .call_nz_a16 _ | .call_z_a16 _ | .call_nc_a16 _ | .call_c_a16 _ => true
  | .ret | .ret_nz | .ret_z | .ret_nc | .ret_c | .reti => true
  | .rst_00 | .rst_08 | .rst_10 | .rst_18 | .rst_20 | .rst_28 | .rst_30 | .rst_38 => true
  | .prefix_cb => true
  | _ => false

/-- The instructions that write SP (10_state.md R15). -/
def writesSp : Instr → Bool
  | .ld_sp_d16 _ | .ld_sp_hl | .add_sp_e _ | .inc_sp | .dec_sp => true
  | .push_bc | .push_de | .push_hl | .push_af | .pop_bc | .pop_de | .pop_hl | .pop_af => true
  | .call_a16 _ | .call_nz_a16 _ | .call_z_a16 _ | .call_nc_a16 _ | .call_c_a16 _ => true
  | .ret | .ret_nz | .ret_z | .ret_nc | .ret_c | .reti => true
  | .rst_00 | .rst_08 | .rst_10 | .rst_18 | .rst_20 | .rst_28 | .rst_30 | .rst_38 => true
  | _ => false

/-- An entry of the flag table (10_state.md R17): "-", "0", "1", "*". -/
inductive FlagEntry where
  | unchanged
  | zero
  | one
  | computed
  deriving DecidableEq, Repr

/-- What an entry says of a flag before and after. -/
def FlagEntry.Holds : FlagEntry → Bool → Bool → Prop
  | .unchanged, old, new => new = old
  | .zero, _, new => new = false
  | .one, _, new => new = true
  | .computed, _, _ => True

/-- The row Z, N, H, C of the flag table for an opcode byte of a table (10_state.md R17, by the opcode ranges of
30_encoding.md R75 and R76). -/
def flagRow (t : Table) (op : Nat) : FlagEntry × FlagEntry × FlagEntry × FlagEntry :=
  match t with
  | .cb =>
    if 0x30 ≤ op ∧ op < 0x38 then (.computed, .zero, .zero, .zero)
    else if op < 0x40 then (.computed, .zero, .zero, .computed)
    else if op < 0x80 then (.computed, .zero, .one, .unchanged)
    else (.unchanged, .unchanged, .unchanged, .unchanged)
  | .main =>
    if (0x80 ≤ op ∧ op < 0xC0) ∨ (0xC0 ≤ op ∧ op % 8 = 6) then
      match op / 8 % 8 with
      | 0 | 1 => (.computed, .zero, .computed, .computed)
      | 2 | 3 | 7 => (.computed, .one, .computed, .computed)
      | 4 => (.computed, .zero, .one, .zero)
      | _ => (.computed, .zero, .zero, .zero)
    else if op < 0x40 ∧ op % 8 = 4 then (.computed, .zero, .computed, .unchanged)
    else if op < 0x40 ∧ op % 8 = 5 then (.computed, .one, .computed, .unchanged)
    else if op < 0x40 ∧ op % 16 = 9 then (.unchanged, .zero, .computed, .computed)
    else if op < 0x20 ∧ op % 8 = 7 then (.zero, .zero, .zero, .computed)
    else if op = 0x27 then (.computed, .unchanged, .zero, .computed)
    else if op = 0x2F then (.unchanged, .one, .one, .unchanged)
    else if op = 0x37 then (.unchanged, .zero, .zero, .one)
    else if op = 0x3F then (.unchanged, .zero, .zero, .computed)
    else if op = 0xE8 ∨ op = 0xF8 then (.zero, .zero, .computed, .computed)
    else if op = 0xF1 then (.computed, .computed, .computed, .computed)
    else (.unchanged, .unchanged, .unchanged, .unchanged)

/-! The PPU. -/

/-- An OAM byte: byte `j` of entry `k` (60_exceptions.md R304). -/
def oamEntry (s : State) (k : Fin 40) (j : Nat) : Byte := readByte s.mem (0xFE00 + 4 * k.val + j)

/-- "LY + 16 >= Y and LY + 16 < Y + h" (60_exceptions.md R305). -/
def onLine (s : State) (k : Fin 40) : Bool :=
  let y := (oamEntry s k 0).toNat
  let h := if s.ppu.lcdc.getLsbD 2 then 16 else 8
  decide (y ≤ s.ppu.ly.toNat + 16 ∧ s.ppu.ly.toNat + 16 < y + h)

/-- The combined STAT condition (60_exceptions.md R322), the enable bits at their places in STAT. -/
def statCondition (p : Ppu) : Bool :=
  decide ((p.statEn.getLsbD 3 = true ∧ p.ly = p.lyc) ∨ (p.statEn.getLsbD 0 = true ∧ p.mode = .hBlank) ∨
    (p.statEn.getLsbD 1 = true ∧ p.mode = .vBlank) ∨ (p.statEn.getLsbD 2 = true ∧ p.mode = .oamSearch))

/-- The tick's place in the frame: 114 ticks a line, 154 lines (60_exceptions.md R301, R302). -/
def framePosition (s : State) : Nat := 114 * s.ppu.ly.toNat + s.ppu.lineCycle

/-! The invariant. -/

/-- Where the PPU is in its line: the counters, LY and the mode agree (60_exceptions.md R300 to R302, R320). In
PixelTransfer the pixels still to draw fit in the ticks left, `PIXEL_ITERS_PER_TICK` in each (R301, R311). -/
def Ppu.timing (p : Ppu) (rate : Nat) : Prop :=
  match p.mode with
  | .oamSearch => p.ly.toNat ≤ 143 ∧ p.lineCycle = p.modeCycleCounter ∧ p.modeCycleCounter < 20
  | .pixelTransfer =>
    p.ly.toNat ≤ 143 ∧ p.lineCycle = p.modeCycleCounter + 20 ∧
      ((p.drawX = 160 ∧ p.modeCycleCounter < 43) ∨
        (p.drawX < 160 ∧ (160 - p.drawX) + p.discardLeft + rate * p.modeCycleCounter ≤ 167))
  | .hBlank =>
    p.ly.toNat ≤ 143 ∧ p.lineCycle < 114 ∧ p.modeCycleCounter + 63 ≤ p.lineCycle ∧
      (4 ≤ rate → p.lineCycle = p.modeCycleCounter + 63)
  | .vBlank => 144 ≤ p.ly.toNat ∧ p.ly.toNat ≤ 153 ∧ p.lineCycle = p.modeCycleCounter ∧ p.lineCycle < 114

/-- The pixel queues and cursors stay in their bounds (10_state.md R37, 60_exceptions.md R305, R317). -/
structure Ppu.Bounds (p : Ppu) : Prop where
  bgFifo : p.bgFifo.length ≤ 16
  oamFifo : p.oamFifo.length ≤ 8
  visible : p.visible.length ≤ 10
  sorted : p.visible.Pairwise (fun v w => v.screenX ≤ w.screenX)
  drawX : p.drawX ≤ 160
  discardLeft : p.discardLeft ≤ 7

/-- What every step keeps. -/
structure Inv (s : State) : Prop where
  /-- "unused bits stay 0" (10_state.md R11) -/
  flags : s.cpu.f &&& 0x0F = 0
  /-- "`cycles_remaining` is 1 to 6 between steps" (60_exceptions.md R250) -/
  cycles : 1 ≤ s.cpu.cyclesRemaining.toNat ∧ s.cpu.cyclesRemaining.toNat ≤ 6
  /-- a halted CPU waits with one cycle left (46_misc_system.md R231) -/
  waiting : s.cpu.halted = true → s.cpu.cyclesRemaining = 1
  /-- "`full_div` is always a multiple of 4" (60_exceptions.md R281) -/
  divider : s.timer.fullDiv.toNat % 4 = 0
  timing : s.ppu.timing s.params.pixelItersPerTick
  bounds : s.ppu.Bounds
  mem : s.mem.wf
  bootRom : ∀ boot, s.bootRom = some boot → bootRomWf boot
  frame : frameWf s.frame
  /-- "the model must refuse `PIXEL_ITERS_PER_TICK` < 2" (60_exceptions.md R301) -/
  rate : 2 ≤ s.params.pixelItersPerTick

/-! Safe runs. -/

/-- A step that neither faults nor is refused. -/
def SafeStep (s : State) : Prop := ∃ t, step s = .next t

/-- A run of `n` steps that neither faults nor is refused. -/
def SafeRun (n : Nat) (s : State) : Prop := ∃ t, core.run n s = .next t

end Sys2Proof.Machine
end

