-- ==== Sys2Proof/Certificates/Slice0/Obligations.lean ====
section
/-! DEFINITION. The statements for the provers. Each docstring names the rules of spec/ it formalises. -/

open Sys2Proof Sys2Proof.Machine

/-! Encoding. -/

/-- Words written out from the encodings of 30_encoding.md R75, R76 decode to the instructions they stand for, one of each
family. -/
def Obligations.SpecWordsDecode : Prop :=
  decode .main [0b00111110, 0x01] = .ok (.ld_a_d8 0x01, []) ∧
  decode .main [0b01111000] = .ok (.ld_a_b, []) ∧
  decode .main [0b00100001, 0x34, 0x12] = .ok (.ld_hl_d16 0x1234, []) ∧
  decode .main [0b11110101] = .ok (.push_af, []) ∧
  decode .main [0b10000000] = .ok (.add_a_b, []) ∧
  decode .main [0b11111110, 0x3C] = .ok (.cp_a_d8 0x3C, []) ∧
  decode .main [0b00110100] = .ok (.inc_atHl, []) ∧
  decode .main [0b00001001] = .ok (.add_hl_bc, []) ∧
  decode .main [0b11101000, 0xFE] = .ok (.add_sp_e 0xFE, []) ∧
  decode .main [0b00000111] = .ok (.rlca, []) ∧
  decode .cb [0b00110111] = .ok (.swap_a, []) ∧
  decode .cb [0b01100101] = .ok (.bit_4_l, []) ∧
  decode .cb [0b10011110] = .ok (.res_3_atHl, []) ∧
  decode .main [0b11010100, 0x34, 0x12] = .ok (.call_nc_a16 0x1234, []) ∧
  decode .main [0b00100000, 0xFC] = .ok (.jr_nz_e 0xFC, []) ∧
  decode .main [0b11101111] = .ok (.rst_28, []) ∧
  decode .main [0b11011001] = .ok (.reti, []) ∧
  decode .main [0b01110110] = .ok (.halt, []) ∧
  decode .main [0b11011101] = .ok (.unassigned_dd, [])

/-- The encoding of every instruction by the fields x, y, z of its opcode byte and its operand bytes, the low one first
(the "Encoding" lines of 40_load8.md to 46_misc_system.md; 30_encoding.md R71). -/
def Obligations.OpcodesByFields : Prop :=
  ∀ (r r' : Reg8) (p : Pair) (q : StackPair) (cc : Cond) (op : AluOp) (rot : RotOp) (b : Fin 8) (n : Byte) (nn : Word),
    let z := regField r'
    let operand : List Byte := [nn.extractLsb' 0 8, nn.extractLsb' 8 8]
    (encode (.ldRegReg r r') = [opcodeOf 1 (regField r) z] ∧ encode (.ldRegImm r n) = [opcodeOf 0 (regField r) 6, n] ∧
      encode (.ldRegHl r) = [opcodeOf 1 (regField r) 6] ∧ encode (.ldHlReg r') = [opcodeOf 1 6 z] ∧
      encode (.ld_atHl_d8 n) = [0x36, n]) ∧
    (encode .ld_a_atBc = [0x0A] ∧ encode .ld_a_atDe = [0x1A] ∧ encode .ld_atBc_a = [0x02] ∧
      encode .ld_atDe_a = [0x12] ∧ encode (.ld_a_atA16 nn) = 0xFA :: operand ∧
      encode (.ld_atA16_a nn) = 0xEA :: operand ∧ encode (.ldh_a_atA8 n) = [0xF0, n] ∧
      encode (.ldh_atA8_a n) = [0xE0, n] ∧ encode .ld_a_atC = [0xF2] ∧ encode .ld_atC_a = [0xE2] ∧
      encode .ld_atHlInc_a = [0x22] ∧ encode .ld_atHlDec_a = [0x32] ∧ encode .ld_a_atHlInc = [0x2A] ∧
      encode .ld_a_atHlDec = [0x3A]) ∧
    (encode (.ldPairImm p nn) = opcodeOf 0 (2 * pairField p) 1 :: operand ∧ encode (.ld_atA16_sp nn) = 0x08 :: operand ∧
      encode .ld_sp_hl = [0xF9] ∧ encode (.ld_hl_sp_e n) = [0xF8, n] ∧ encode (.add_sp_e n) = [0xE8, n] ∧
      encode (.pushPair q) = [opcodeOf 3 (2 * stackPairField q) 5] ∧
      encode (.popPair q) = [opcodeOf 3 (2 * stackPairField q) 1]) ∧
    (encode (.aluReg op r') = [opcodeOf 2 (aluField op) z] ∧ encode (.aluHl op) = [opcodeOf 2 (aluField op) 6] ∧
      encode (.aluImm op n) = [opcodeOf 3 (aluField op) 6, n] ∧ encode (.incReg r) = [opcodeOf 0 (regField r) 4] ∧
      encode (.decReg r) = [opcodeOf 0 (regField r) 5] ∧ encode .inc_atHl = [0x34] ∧ encode .dec_atHl = [0x35] ∧
      encode (.addHlPair p) = [opcodeOf 0 (2 * pairField p + 1) 1] ∧ encode (.incPair p) = [opcodeOf 0 (2 * pairField p) 3] ∧
      encode (.decPair p) = [opcodeOf 0 (2 * pairField p + 1) 3]) ∧
    ([.rlca, .rrca, .rla, .rra, .daa, .cpl, .scf, .ccf].map encode =
      [[0x07], [0x0F], [0x17], [0x1F], [0x27], [0x2F], [0x37], [0x3F]]) ∧
    (encode (.rotReg rot r') = [opcodeOf 0 (rotField rot) z] ∧ encode (.rotHl rot) = [opcodeOf 0 (rotField rot) 6] ∧
      encode (.bitReg b r') = [opcodeOf 1 b.val z] ∧ encode (.bitHl b) = [opcodeOf 1 b.val 6] ∧
      encode (.resReg b r') = [opcodeOf 2 b.val z] ∧ encode (.resHl b) = [opcodeOf 2 b.val 6] ∧
      encode (.setBitReg b r') = [opcodeOf 3 b.val z] ∧ encode (.setBitHl b) = [opcodeOf 3 b.val 6]) ∧
    ([Instr.rotReg rot r', .rotHl rot, .bitReg b r', .bitHl b, .resReg b r', .resHl b, .setBitReg b r', .setBitHl b].map
      Instr.table = List.replicate 8 .cb) ∧
    (encode (.jp_a16 nn) = 0xC3 :: operand ∧ encode (.jpCc cc nn) = opcodeOf 3 (condField cc) 2 :: operand ∧
      encode .jp_hl = [0xE9] ∧ encode (.jr_e n) = [0x18, n] ∧ encode (.jrCc cc n) = [opcodeOf 0 (4 + condField cc) 0, n] ∧
      encode (.call_a16 nn) = 0xCD :: operand ∧ encode (.callCc cc nn) = opcodeOf 3 (condField cc) 4 :: operand ∧
      encode .ret = [0xC9] ∧ encode (.retCc cc) = [opcodeOf 3 (condField cc) 0] ∧ encode .reti = [0xD9] ∧
      encode (.rst b) = [opcodeOf 3 b.val 7]) ∧
    (encode .nop = [0x00] ∧ encode .halt = [0x76] ∧ encode (.stop n) = [0x10, n] ∧ encode .di = [0xF3] ∧
      encode .ei = [0xFB] ∧ encode .prefix_cb = [0xCB])

/-- Decoding the encoding of any instruction, with any operands, gives it back and leaves the bytes after it. -/
def Obligations.DecodeEncode : Prop :=
  ∀ (i : Instr) (rest : List Byte), decode i.table (encode i ++ rest) = .ok (i, rest)

/-- An instruction read from bytes encodes to those bytes in the table it was read from, and bytes are refused only where
the opcode or its operand bytes are missing (30_encoding.md R70: 1, 2 or 3 bytes, 1 in the CB table). -/
def Obligations.EncodeDecode : Prop :=
  (∀ (t : Table) (bytes rest : List Byte) (i : Instr),
    decode t bytes = .ok (i, rest) → bytes = encode i ++ rest ∧ i.table = t) ∧
  (∀ (t : Table) (op : Byte) (rest : List Byte),
    (∃ r, decode t (op :: rest) = .ok r) ↔ (entryOf t op).length ≤ rest.length + 1) ∧
  (∀ op : Byte, 1 ≤ (entryOf .main op).length ∧ (entryOf .main op).length ≤ 3 ∧ (entryOf .cb op).length = 1)

/-- Exactly the eleven bytes of 30_encoding.md R78 are unassigned, in the main table only, and running one raises
`DecodeFault(opcode, PC)` (46_misc_system.md R237). That they are ill-formed terms is the model's form (log entry 18). -/
def Obligations.UnassignedOpcodes : Prop :=
  (∀ op b1 b2 : Byte, (decodeFetched .main op b1 b2).wf = false ↔ op ∈ unassignedBytes) ∧
  (∀ op b1 b2 : Byte, (decodeFetched .cb op b1 b2).wf = true) ∧
  (∀ (op b1 b2 : Byte) (s : State), op ∈ unassignedBytes →
    exec (decodeFetched .main op b1 b2) s = .fault (.decodeFault op s.cpu.pc))

/-! The tick. -/

/-- At a fetch point where no interrupt is serviced, a step runs the instruction the bytes at PC decode to, in the table
`cb_prefix_pending` selects, then the PPU, the timer, the serial agent and the host (00_scope.md R2, R6; 30_encoding.md
R80; 60_exceptions.md R250). The tick count and the list of host actions are the model's forms (log entries 5 and 8). -/
def Obligations.StepRunsDecodedInstruction : Prop :=
  ∀ (s : State) (i : Instr) (rest : List Byte),
    2 ≤ s.params.pixelItersPerTick → AtFetch s → ¬(s.cpu.ime = true ∧ s.pending ≠ 0) →
    decode (if s.cpu.cbPrefixPending then .cb else .main)
      [memRead .opcode s s.cpu.pc, memRead .operand1 s (s.cpu.pc + 1), memRead .operand2 s (s.cpu.pc + 2)] =
        .ok (i, rest) →
    step s =
      match exec i (toFetch s) with
      | .next t =>
        let t' := serialStep (timerStep (ppuStep t))
        .next (hostStep { t' with drawCount := t'.drawCount + 1 })
      | .fault r => .fault r
      | .refused r => .refused r

/-- `HALT`, and every `CpuStep` that is no fetch or is one out of `HALT`: a halted CPU with nothing pending changes
nothing; a CPU in flight only counts down; `HALT` leaves one cycle, and on wake-up without `ime` the next instruction is
fetched, no interrupt taken (46_misc_system.md R231; 60_exceptions.md R250, R251, R278). -/
def Obligations.WaitingAndWaking : Prop :=
  (∀ s : State, exec .halt s = .next (s.ends { s.cpu with halted := true } (s.cpu.pc + 1) 1)) ∧
  (∀ s : State, s.cpu.halted = true → s.pending = 0 → cpuStep s = .next s) ∧
  (∀ s : State, (s.cpu.halted = false ∨ s.pending ≠ 0) → s.cpu.cyclesRemaining ≠ 1 →
    cpuStep s =
      .next { s with cpu := { s.cpu with halted := false, cyclesRemaining := s.cpu.cyclesRemaining - 1 } }) ∧
  (∀ s : State, s.cpu.halted = true → s.cpu.cyclesRemaining = 1 → s.pending ≠ 0 → s.cpu.ime = false →
    cpuStep s = exec s.fetched (toFetch s))

/-- Interrupt service at a fetch point: the least pending source is taken, `ime` and its IF bit are cleared, PC is pushed,
PC is `0x0040 + 8 * i`, `cycles_remaining` is 5, nothing else changes (60_exceptions.md R252, R253, R264). -/
def Obligations.ServiceTakesLeastPending : Prop :=
  ∀ s : State, AtFetch s → s.cpu.ime = true → s.pending ≠ 0 →
    ∃ i : Fin 5, s.pending.getLsbD i = true ∧ (∀ j : Fin 5, j < i → s.pending.getLsbD j = false) ∧
      cpuStep s =
        .next ((memWrite16 { s with irq := { s.irq with iflag := s.irq.iflag &&& ~~~((1 : Byte) <<< i.val) } }
            (s.cpu.sp - 2) s.cpu.pc).ends
          { s.cpu with ime := false, sp := s.cpu.sp - 2, halted := false } (BitVec.ofNat 16 (0x40 + 8 * i.val)) 5)

/-- Returns undo calls: `RETI` after interrupt service, `RET` after `CALL` and after `RST`, and `POP` after `PUSH`, give
back PC, SP and `ime` (or the popped pair) and keep every other register, wherever the two stack bytes are plain memory
(41_load16.md R126; 60_exceptions.md R270; 45_control.md R220). -/
def Obligations.ReturnsUndoCalls : Prop :=
  ∀ s : State, plainByte s (s.cpu.sp - 2) = true → plainByte s (s.cpu.sp - 1) = true →
    (∀ source : Fin 5, s.cpu.ime = true →
      ∃ u, exec .reti (s.takeInterrupt source) = .next u ∧
        u.cpu = { s.cpu with halted := false, cyclesRemaining := 4 }) ∧
    (∀ nn : Word, ∃ t u, exec (.call_a16 nn) s = .next t ∧ t.cpu.pc = nn ∧ exec .ret t = .next u ∧
      u.cpu = { s.cpu with pc := s.cpu.pc + 3, cyclesRemaining := 4 }) ∧
    (∀ y : Fin 8, ∃ t u, exec (Instr.rst y) s = .next t ∧ t.cpu.pc = BitVec.ofNat 16 (8 * y.val) ∧
      exec .ret t = .next u ∧ u.cpu = { s.cpu with pc := s.cpu.pc + 1, cyclesRemaining := 4 }) ∧
    (∀ p q : StackPair, ∃ t u, exec (Instr.pushPair p) s = .next t ∧ exec (Instr.popPair q) t = .next u ∧
      u.cpu = { s.cpu.setStackPair q (s.cpu.stackPair p) with pc := s.cpu.pc + 2, cyclesRemaining := 3 })

/-- A step faults exactly where the spec raises `DecodeFault`: a main-table fetch of an unassigned byte, or of `STOP` under
`STOP_BEHAVIOUR` = fault (60_exceptions.md R240, R241, R265; 46_misc_system.md R233). -/
def Obligations.StepFaultsExactlyWhen : Prop :=
  ∀ (s : State) (op : Byte) (pc : Word), 2 ≤ s.params.pixelItersPerTick →
    (step s = .fault (.decodeFault op pc) ↔
      AtFetch s ∧ ¬(s.cpu.ime = true ∧ s.pending ≠ 0) ∧ s.cpu.cbPrefixPending = false ∧ pc = s.cpu.pc ∧
        op = memRead .opcode s s.cpu.pc ∧
        (op ∈ unassignedBytes ∨ (op = 0x10 ∧ s.params.stopBehaviour = .fault)))

/-- A step is refused exactly where "the model must refuse `PIXEL_ITERS_PER_TICK` < 2" (60_exceptions.md R301;
in the step, log entry 20). -/
def Obligations.StepRefusesExactlyWhen : Prop :=
  ∀ s : State, (∃ r, step s = .refused r) ↔ s.params.pixelItersPerTick < 2

/-- The state before tick 1 (10_state.md R39, 70_reset_and_hazards.md R340 to R342, whose values the spec gives by its
decisions D6, D7, D35): every byte and pixel reads 0, the first step fetches at 0x0000 and the PPU is at the start of line 0. The model's own
choices: ROM and boot ROM are absent (log entry 2), ROM reading 0xFF (log entry 3), and `frame_ready` is 0 (log entry 4). -/
def Obligations.ResetState : Prop :=
  State.reset.cpu =
    { a := 0, f := 0, b := 0, c := 0, d := 0, e := 0, h := 0, l := 0, sp := 0, pc := 0, halted := false, ime := false,
      cyclesRemaining := 1, cbPrefixPending := false } ∧
  State.reset.irq = { iflag := 0, ie := 0 } ∧
  State.reset.timer = { fullDiv := 0, timerPrev := false, tima := 0, tma := 0, tac := 0 } ∧
  State.reset.ppu =
    { lcdc := 0, statEn := 0, scy := 0, scx := 0, ly := 0, lyc := 0, bgp := 0, obp0 := 0, obp1 := 0, wy := 0, wx := 0,
      mode := .oamSearch, modeCycleCounter := 0, lineCycle := 0, windowLineInternal := 0, bgFifo := [], oamFifo := [],
      visible := [], drawX := 0, discardLeft := 0, fetchN := 0, windowActive := false, statIrqLatched := false,
      frameReady := false } ∧
  State.reset.bootOverlay = true ∧ State.reset.bootRom = none ∧
  (∀ x y : Nat, readPixel State.reset.frame x y = 0) ∧
  (∀ k : Nat, readByte State.reset.mem k = if k < 0x8000 then 0xFF else 0x00)

/-- The invariant holds at reset. -/
def Obligations.InvAtReset : Prop := Inv State.reset

/-- Every step keeps the invariant: the low nibble of F, the range of `cycles_remaining`, a waiting CPU's one cycle, the
divider's multiple of 4, where the PPU is in its line, the bounds of its queues, and the canonical forms of memory, boot
ROM and frame buffer, which are the model's form (log entry 16) (10_state.md R11; 60_exceptions.md R250, R281, R300,
R301, R317). -/
def Obligations.InvStep : Prop := ∀ s t : State, Inv s → step s = .next t → Inv t

/-! Registers. -/

/-- Register operands: pairs are their two halves (10_state.md R12); the register field (R13), the pair fields (R14) and
the condition field (R19) name what the tables say. -/
def Obligations.RegisterOperands : Prop :=
  ∀ (c : Cpu) (v : Word) (w : Byte),
    (c.af = c.a ++ c.f ∧ c.bc = c.b ++ c.c ∧ c.de = c.d ++ c.e ∧ c.hl = c.h ++ c.l) ∧
    (c.setBc v = { c with b := v.extractLsb' 8 8, c := v.extractLsb' 0 8 } ∧
      c.setDe v = { c with d := v.extractLsb' 8 8, e := v.extractLsb' 0 8 } ∧
      c.setHl v = { c with h := v.extractLsb' 8 8, l := v.extractLsb' 0 8 } ∧
      c.setAf v = { c with a := v.extractLsb' 8 8, f := v.extractLsb' 0 8 &&& 0xF0 }) ∧
    (∀ p, (c.setPair p v).pair p = v) ∧ (∀ p, p ≠ .af → (c.setStackPair p v).stackPair p = v) ∧
    (∀ r r', (c.setReg r w).reg r' = if r' = r then w else c.reg r') ∧
    ([.b, .c, .d, .e, .h, .l, .a].map c.reg = [c.b, c.c, c.d, c.e, c.h, c.l, c.a]) ∧
    ([.bc, .de, .hl, .sp].map c.pair = [c.bc, c.de, c.hl, c.sp]) ∧
    ([.bc, .de, .hl, .af].map c.stackPair = [c.bc, c.de, c.hl, c.af]) ∧
    ([.nz, .z, .nc, .c].map c.holds = [!c.f.getLsbD 7, c.f.getLsbD 7, !c.f.getLsbD 4, c.f.getLsbD 4])

/-! 8-bit loads. -/

/-- `LD r,r'`, `LD r,d8`, `LD r,(HL)`, `LD (HL),r`, `LD (HL),d8` (40_load8.md R100 to R104). -/
def Obligations.LoadsAndStoresOfRegisters : Prop :=
  ∀ (dst src : Reg8) (n : Byte) (s : State),
    exec (Instr.ldRegReg dst src) s = .next (s.ends (s.cpu.setReg dst (s.cpu.reg src)) (s.cpu.pc + 1) 1) ∧
    exec (Instr.ldRegImm dst n) s = .next (s.ends (s.cpu.setReg dst n) (s.cpu.pc + 2) 2) ∧
    exec (Instr.ldRegHl dst) s =
      .next (s.ends (s.cpu.setReg dst (memRead .data s s.cpu.hl)) (s.cpu.pc + 1) 2) ∧
    exec (Instr.ldHlReg src) s = .next ((memWrite s s.cpu.hl (s.cpu.reg src)).ends s.cpu (s.cpu.pc + 1) 2) ∧
    exec (.ld_atHl_d8 n) s = .next ((memWrite s s.cpu.hl n).ends s.cpu (s.cpu.pc + 2) 3)

/-- The loads of A from memory: `(BC)`, `(DE)`, `(a16)`, `(a8)`, `(C)`, `(HL+)`, `(HL-)` (40_load8.md R105, R106, R109,
R111, R113, R117, R118). -/
def Obligations.LoadsOfA : Prop :=
  ∀ (n : Byte) (nn : Word) (s : State),
    exec .ld_a_atBc s = .next (s.ends { s.cpu with a := memRead .data s s.cpu.bc } (s.cpu.pc + 1) 2) ∧
    exec .ld_a_atDe s = .next (s.ends { s.cpu with a := memRead .data s s.cpu.de } (s.cpu.pc + 1) 2) ∧
    exec (.ld_a_atA16 nn) s = .next (s.ends { s.cpu with a := memRead .data s nn } (s.cpu.pc + 3) 4) ∧
    exec (.ldh_a_atA8 n) s =
      .next (s.ends { s.cpu with a := memRead .data s ((0xFF : Byte) ++ n) } (s.cpu.pc + 2) 3) ∧
    exec .ld_a_atC s =
      .next (s.ends { s.cpu with a := memRead .data s ((0xFF : Byte) ++ s.cpu.c) } (s.cpu.pc + 1) 2) ∧
    exec .ld_a_atHlInc s =
      .next (s.ends ({ s.cpu with a := memRead .data s s.cpu.hl }.setHl (s.cpu.hl + 1)) (s.cpu.pc + 1) 2) ∧
    exec .ld_a_atHlDec s =
      .next (s.ends ({ s.cpu with a := memRead .data s s.cpu.hl }.setHl (s.cpu.hl - 1)) (s.cpu.pc + 1) 2)

/-- The stores of A to memory: `(BC)`, `(DE)`, `(a16)`, `(a8)`, `(C)`, `(HL+)`, `(HL-)`, the last two at the old HL
(40_load8.md R107, R108, R110, R112, R114, R115, R116). -/
def Obligations.StoresOfA : Prop :=
  ∀ (n : Byte) (nn : Word) (s : State),
    exec .ld_atBc_a s = .next ((memWrite s s.cpu.bc s.cpu.a).ends s.cpu (s.cpu.pc + 1) 2) ∧
    exec .ld_atDe_a s = .next ((memWrite s s.cpu.de s.cpu.a).ends s.cpu (s.cpu.pc + 1) 2) ∧
    exec (.ld_atA16_a nn) s = .next ((memWrite s nn s.cpu.a).ends s.cpu (s.cpu.pc + 3) 4) ∧
    exec (.ldh_atA8_a n) s = .next ((memWrite s ((0xFF : Byte) ++ n) s.cpu.a).ends s.cpu (s.cpu.pc + 2) 3) ∧
    exec .ld_atC_a s = .next ((memWrite s ((0xFF : Byte) ++ s.cpu.c) s.cpu.a).ends s.cpu (s.cpu.pc + 1) 2) ∧
    exec .ld_atHlInc_a s =
      .next ((memWrite s s.cpu.hl s.cpu.a).ends (s.cpu.setHl (s.cpu.hl + 1)) (s.cpu.pc + 1) 2) ∧
    exec .ld_atHlDec_a s =
      .next ((memWrite s s.cpu.hl s.cpu.a).ends (s.cpu.setHl (s.cpu.hl - 1)) (s.cpu.pc + 1) 2)

/-! 16-bit loads and the stack. -/

/-- `LD rr,d16`, `LD (a16),SP`, `LD SP,HL`, `LD HL,SP+e` and `ADD SP,e`, H and C of the last two from the unsigned sum of
SP's low byte and the raw byte (41_load16.md R120 to R123; 43_alu16.md R173). -/
def Obligations.LoadsOfPairs : Prop :=
  ∀ (p : Pair) (nn : Word) (e : Byte) (s : State),
    let f := flagByte false false (decide (s.cpu.sp.toNat % 16 + e.toNat % 16 > 15))
      (decide (s.cpu.sp.toNat % 256 + e.toNat > 255))
    exec (Instr.ldPairImm p nn) s = .next (s.ends (s.cpu.setPair p nn) (s.cpu.pc + 3) 3) ∧
    exec (.ld_atA16_sp nn) s = .next ((memWrite16 s nn s.cpu.sp).ends s.cpu (s.cpu.pc + 3) 5) ∧
    exec .ld_sp_hl s = .next (s.ends { s.cpu with sp := s.cpu.hl } (s.cpu.pc + 1) 2) ∧
    exec (.ld_hl_sp_e e) s =
      .next (s.ends { s.cpu.setHl (s.cpu.sp + e.signExtend 16) with f := f } (s.cpu.pc + 2) 3) ∧
    exec (.add_sp_e e) s = .next (s.ends { s.cpu with sp := s.cpu.sp + e.signExtend 16, f := f } (s.cpu.pc + 2) 4)

/-- `PUSH rr` and `POP rr`, `POP AF` clearing the low nibble of F (41_load16.md R125 to R129). -/
def Obligations.PushAndPop : Prop :=
  ∀ (p : StackPair) (s : State),
    exec (Instr.pushPair p) s =
      .next ((memWrite16 s (s.cpu.sp - 2) (s.cpu.stackPair p)).ends { s.cpu with sp := s.cpu.sp - 2 }
        (s.cpu.pc + 1) 4) ∧
    exec (Instr.popPair p) s =
      .next (s.ends ({ s.cpu with sp := s.cpu.sp + 2 }.setStackPair p (memRead16 .data s s.cpu.sp))
        (s.cpu.pc + 1) 3)

/-! 8-bit arithmetic and logic. -/

/-- `ADD A,x` and `ADC A,x` in all three forms: H from bit 3, C from bit 7 (42_alu8.md R130, R131, R138 to R143). -/
def Obligations.AdditionsOnA : Prop :=
  ∀ (s : State) (i : Instr) (b : Byte) (len : Word) (cost : Byte),
    let a := s.cpu.a
    let c := s.cpu.flagC
    (AluOperand .add s i b len cost →
      exec i s = .next (s.ends
        { s.cpu with a := a + b, f := flagByte (decide (a + b = 0)) false (decide (a.toNat % 16 + b.toNat % 16 > 15))
                                      (decide (a.toNat + b.toNat > 255)) } (s.cpu.pc + len) cost)) ∧
    (AluOperand .adc s i b len cost →
      let sum := a + b + BitVec.ofNat 8 c.toNat
      exec i s = .next (s.ends
        { s.cpu with a := sum, f := flagByte (decide (sum = 0)) false
                                      (decide (a.toNat % 16 + b.toNat % 16 + c.toNat > 15))
                                      (decide (a.toNat + b.toNat + c.toNat > 255)) } (s.cpu.pc + len) cost))

/-- `SUB A,x`, `SBC A,x` and `CP A,x` in all three forms: N = 1, H and C the nibble and byte borrow, A unchanged by `CP`
(42_alu8.md R132 to R134, R144 to R149, R159 to R161). -/
def Obligations.SubtractionsOnA : Prop :=
  ∀ (s : State) (i : Instr) (b : Byte) (len : Word) (cost : Byte),
    let a := s.cpu.a
    let c := s.cpu.flagC
    let f := flagByte (decide (a = b)) true (decide (a.toNat % 16 < b.toNat % 16)) (decide (a.toNat < b.toNat))
    (AluOperand .sub s i b len cost → exec i s = .next (s.ends { s.cpu with a := a - b, f := f } (s.cpu.pc + len) cost)) ∧
    (AluOperand .cp s i b len cost → exec i s = .next (s.ends { s.cpu with f := f } (s.cpu.pc + len) cost)) ∧
    (AluOperand .sbc s i b len cost →
      let diff := a - b - BitVec.ofNat 8 c.toNat
      exec i s = .next (s.ends
        { s.cpu with a := diff, f := flagByte (decide (diff = 0)) true
                                       (decide (a.toNat % 16 < b.toNat % 16 + c.toNat))
                                       (decide (a.toNat < b.toNat + c.toNat)) } (s.cpu.pc + len) cost))

/-- `AND A,x`, `XOR A,x` and `OR A,x` in all three forms (42_alu8.md R135 to R137, R150 to R158). -/
def Obligations.LogicOnA : Prop :=
  ∀ (s : State) (i : Instr) (b : Byte) (len : Word) (cost : Byte),
    let a := s.cpu.a
    (AluOperand .and s i b len cost →
      exec i s = .next (s.ends { s.cpu with a := a &&& b, f := flagByte (decide (a &&& b = 0)) false true false }
        (s.cpu.pc + len) cost)) ∧
    (AluOperand .xor s i b len cost →
      exec i s = .next (s.ends { s.cpu with a := a ^^^ b, f := flagByte (decide (a = b)) false false false }
        (s.cpu.pc + len) cost)) ∧
    (AluOperand .or s i b len cost →
      exec i s = .next (s.ends { s.cpu with a := a ||| b, f := flagByte (decide (a ||| b = 0)) false false false }
        (s.cpu.pc + len) cost))

/-- `INC` and `DEC` of a register and of the byte at HL: C is never touched (42_alu8.md R162 to R165). -/
def Obligations.IncrementsAndDecrements : Prop :=
  ∀ (r : Reg8) (s : State),
    let up (v : Byte) := flagByte (decide (v = 0xFF)) false (decide (v.toNat % 16 = 15)) s.cpu.flagC
    let down (v : Byte) := flagByte (decide (v = 0x01)) true (decide (v.toNat % 16 = 0)) s.cpu.flagC
    let v := s.cpu.reg r
    let m := memRead .data s s.cpu.hl
    exec (Instr.incReg r) s = .next (s.ends { s.cpu.setReg r (v + 1) with f := up v } (s.cpu.pc + 1) 1) ∧
    exec .inc_atHl s =
      .next ((memWrite s s.cpu.hl (m + 1)).ends { s.cpu with f := up m } (s.cpu.pc + 1) 3) ∧
    exec (Instr.decReg r) s = .next (s.ends { s.cpu.setReg r (v - 1) with f := down v } (s.cpu.pc + 1) 1) ∧
    exec .dec_atHl s =
      .next ((memWrite s s.cpu.hl (m - 1)).ends { s.cpu with f := down m } (s.cpu.pc + 1) 3)

/-- `DAA`: the add-side tests on A only when N = 0, C never cleared, N unchanged (42_alu8.md R166). -/
def Obligations.DecimalAdjust : Prop :=
  ∀ s : State,
    let a := s.cpu.a
    let n := s.cpu.flagN
    let low : Bool := decide (s.cpu.flagH = true ∨ (n = false ∧ a.toNat % 16 > 9))
    let high : Bool := decide (s.cpu.flagC = true ∨ (n = false ∧ a.toNat > 0x99))
    let adj : Byte := (if low then 0x06 else 0x00) ||| (if high then 0x60 else 0x00)
    let r := if n then a - adj else a + adj
    exec .daa s = .next (s.ends { s.cpu with a := r, f := flagByte (decide (r = 0)) n false high } (s.cpu.pc + 1) 1)

/-- Decimal arithmetic: `ADD` then `DAA`, and `SUB` then `DAA`, of two-digit decimal bytes give the decimal sum and
difference modulo 100 with C the decimal carry and borrow (42_alu8.md R166, its derived property). -/
def Obligations.DecimalArithmetic : Prop :=
  ∀ (s : State) (x y : Nat), x < 100 → y < 100 → s.cpu.a = bcdByte x →
    (∃ t u, exec (.add_a_d8 (bcdByte y)) s = .next t ∧ exec .daa t = .next u ∧
      u.cpu.a = bcdByte ((x + y) % 100) ∧ (u.cpu.flagC = true ↔ 99 < x + y)) ∧
    (∃ t u, exec (.sub_a_d8 (bcdByte y)) s = .next t ∧ exec .daa t = .next u ∧
      u.cpu.a = bcdByte ((x + 100 - y) % 100) ∧ (u.cpu.flagC = true ↔ x < y))

/-- `CPL`, `SCF`, `CCF`: Z is unchanged (42_alu8.md R167 to R169). -/
def Obligations.ComplementAndCarry : Prop :=
  ∀ s : State,
    exec .cpl s =
      .next (s.ends { s.cpu with a := ~~~s.cpu.a, f := flagByte s.cpu.flagZ true true s.cpu.flagC }
        (s.cpu.pc + 1) 1) ∧
    exec .scf s = .next (s.ends { s.cpu with f := flagByte s.cpu.flagZ false false true } (s.cpu.pc + 1) 1) ∧
    exec .ccf s = .next (s.ends { s.cpu with f := flagByte s.cpu.flagZ false false (!s.cpu.flagC) } (s.cpu.pc + 1) 1)

/-- `ADD HL,rr` (H from bit 11, C from bit 15, Z unchanged), `INC rr` and `DEC rr` (no flag) (43_alu16.md R170 to
R172). -/
def Obligations.PairArithmetic : Prop :=
  ∀ (p : Pair) (s : State),
    let a := s.cpu.hl
    let b := s.cpu.pair p
    exec (Instr.addHlPair p) s =
      .next (s.ends
        { s.cpu.setHl (a + b) with f := flagByte s.cpu.flagZ false (decide (a.toNat % 4096 + b.toNat % 4096 > 4095))
                                          (decide (a.toNat + b.toNat > 65535)) } (s.cpu.pc + 1) 2) ∧
    exec (Instr.incPair p) s = .next (s.ends (s.cpu.setPair p (b + 1)) (s.cpu.pc + 1) 2) ∧
    exec (Instr.decPair p) s = .next (s.ends (s.cpu.setPair p (b - 1)) (s.cpu.pc + 1) 2)

/-! Rotates, shifts and bits. -/

/-- `RLCA`, `RLA`, `RRCA`, `RRA`: Z is 0 whatever the result (44_rotate_shift_bit.md R180 to R183). -/
def Obligations.AccumulatorRotates : Prop :=
  ∀ s : State,
    let out (op : RotOp) : State :=
      s.ends { s.cpu with a := (rotated op s.cpu.a s.cpu.flagC).1
                          f := flagByte false false false (rotated op s.cpu.a s.cpu.flagC).2 } (s.cpu.pc + 1) 1
    exec .rlca s = .next (out .rlc) ∧ exec .rla s = .next (out .rl) ∧ exec .rrca s = .next (out .rrc) ∧
      exec .rra s = .next (out .rr)

/-- The eight rotates and shifts of a register: Z from the result, C the bit shifted out (44_rotate_shift_bit.md R184,
R186, R188, R190, R192, R194, R196, R198). -/
def Obligations.RotatesOfRegisters : Prop :=
  ∀ (op : RotOp) (r : Reg8) (s : State),
    let out := rotated op (s.cpu.reg r) s.cpu.flagC
    exec (Instr.rotReg op r) s =
      .next (s.ends { s.cpu.setReg r out.1 with f := flagByte (decide (out.1 = 0)) false false out.2 }
        (s.cpu.pc + 1) 1)

/-- The eight rotates and shifts of the byte at HL (44_rotate_shift_bit.md R185, R187, R189, R191, R193, R195, R197,
R199). -/
def Obligations.RotatesAtHl : Prop :=
  ∀ (op : RotOp) (s : State),
    let out := rotated op (memRead .data s s.cpu.hl) s.cpu.flagC
    exec (Instr.rotHl op) s =
      .next ((memWrite s s.cpu.hl out.1).ends { s.cpu with f := flagByte (decide (out.1 = 0)) false false out.2 }
        (s.cpu.pc + 1) 3)

/-- `BIT b,x`: Z the complement of the bit, H = 1, C and the operand unchanged (44_rotate_shift_bit.md R200, R201). -/
def Obligations.BitTests : Prop :=
  ∀ (b : Fin 8) (r : Reg8) (s : State),
    let f (v : Byte) := flagByte (decide (v.toNat / 2 ^ b.val % 2 = 0)) false true s.cpu.flagC
    exec (Instr.bitReg b r) s = .next (s.ends { s.cpu with f := f (s.cpu.reg r) } (s.cpu.pc + 1) 1) ∧
    exec (Instr.bitHl b) s = .next (s.ends { s.cpu with f := f (memRead .data s s.cpu.hl) } (s.cpu.pc + 1) 2)

/-- `RES b,x` and `SET b,x`: the one bit, no flag (44_rotate_shift_bit.md R202 to R205). -/
def Obligations.ResetAndSetBits : Prop :=
  ∀ (b : Fin 8) (r : Reg8) (s : State),
    let one : Byte := BitVec.ofNat 8 (2 ^ b.val)
    let m := memRead .data s s.cpu.hl
    exec (Instr.resReg b r) s = .next (s.ends (s.cpu.setReg r (s.cpu.reg r &&& ~~~one)) (s.cpu.pc + 1) 1) ∧
    exec (Instr.resHl b) s = .next ((memWrite s s.cpu.hl (m &&& ~~~one)).ends s.cpu (s.cpu.pc + 1) 3) ∧
    exec (Instr.setBitReg b r) s = .next (s.ends (s.cpu.setReg r (s.cpu.reg r ||| one)) (s.cpu.pc + 1) 1) ∧
    exec (Instr.setBitHl b) s = .next ((memWrite s s.cpu.hl (m ||| one)).ends s.cpu (s.cpu.pc + 1) 3)

/-! Control transfer. -/

/-- `JP` and `JR`, conditional and not, `JP HL` (45_control.md R210 to R214). -/
def Obligations.Jumps : Prop :=
  ∀ (cc : Cond) (nn : Word) (e : Byte) (s : State),
    let relative := s.cpu.pc + 2 + e.signExtend 16
    exec (.jp_a16 nn) s = .next (s.ends s.cpu nn 4) ∧
    exec (Instr.jpCc cc nn) s = .next (if s.cpu.holds cc then s.ends s.cpu nn 4 else s.ends s.cpu (s.cpu.pc + 3) 3) ∧
    exec .jp_hl s = .next (s.ends s.cpu s.cpu.hl 1) ∧
    exec (.jr_e e) s = .next (s.ends s.cpu relative 3) ∧
    exec (Instr.jrCc cc e) s =
      .next (if s.cpu.holds cc then s.ends s.cpu relative 3 else s.ends s.cpu (s.cpu.pc + 2) 2)

/-- `CALL`, conditional and not, and `RST`: the address after the instruction is pushed (45_control.md R215, R216,
R221). -/
def Obligations.Calls : Prop :=
  ∀ (cc : Cond) (nn : Word) (y : Fin 8) (s : State),
    let pushed (ret : Word) := memWrite16 s (s.cpu.sp - 2) ret
    let cpu := { s.cpu with sp := s.cpu.sp - 2 }
    exec (.call_a16 nn) s = .next ((pushed (s.cpu.pc + 3)).ends cpu nn 6) ∧
    exec (Instr.callCc cc nn) s =
      .next (if s.cpu.holds cc then (pushed (s.cpu.pc + 3)).ends cpu nn 6 else s.ends s.cpu (s.cpu.pc + 3) 3) ∧
    exec (Instr.rst y) s = .next ((pushed (s.cpu.pc + 1)).ends cpu (BitVec.ofNat 16 (8 * y.val)) 4)

/-- `RET`, `RET cc` and `RETI`, which also sets `ime` (45_control.md R217 to R219). -/
def Obligations.Returns : Prop :=
  ∀ (cc : Cond) (s : State),
    let target := memRead16 .data s s.cpu.sp
    let cpu := { s.cpu with sp := s.cpu.sp + 2 }
    exec .ret s = .next (s.ends cpu target 4) ∧
    exec (Instr.retCc cc) s = .next (if s.cpu.holds cc then s.ends cpu target 5 else s.ends s.cpu (s.cpu.pc + 1) 2) ∧
    exec .reti s = .next (s.ends { cpu with ime := true } target 4)

/-! System instructions. -/

/-- `NOP`, `DI`, `EI`, `PREFIX CB`, and `STOP` by its parameter (46_misc_system.md R230, R233 to R236). -/
def Obligations.SystemInstructions : Prop :=
  ∀ (n : Byte) (s : State),
    exec .nop s = .next (s.ends s.cpu (s.cpu.pc + 1) 1) ∧
    exec .di s = .next (s.ends { s.cpu with ime := false } (s.cpu.pc + 1) 1) ∧
    exec .ei s = .next (s.ends { s.cpu with ime := true } (s.cpu.pc + 1) 1) ∧
    exec .prefix_cb s = .next (s.ends { s.cpu with cbPrefixPending := true } (s.cpu.pc + 1) 1) ∧
    (s.params.stopBehaviour = .nop2 → exec (.stop n) s = .next (s.ends s.cpu (s.cpu.pc + 2) 1)) ∧
    (s.params.stopBehaviour = .halt →
      exec (.stop n) s = .next (s.ends { s.cpu with halted := true } (s.cpu.pc + 2) 1)) ∧
    (s.params.stopBehaviour = .fault → exec (.stop n) s = .fault (.decodeFault 0x10 s.cpu.pc))

/-! Frames: what every instruction leaves alone. -/

/-- An instruction that stores nothing changes nothing but the CPU, and every byte reads as before. -/
def Obligations.FrameWithoutStores : Prop :=
  ∀ (i : Instr) (s t : State), exec i s = .next t → storedAt i s = [] →
    t = { s with cpu := t.cpu } ∧ ∀ (acc : Access) (addr : Word), memRead acc t addr = memRead acc s addr

/-- Whatever an instruction stores at the addresses `storedAt` computes, every address that does not name one of those
bytes reads as before, and no device state changes but the register written: `full_div` only by a store to 0xFF04, the
boot overlay flag only by one to 0xFF50, `timer_prev`, the frame buffer and the PPU's internal state by none. -/
def Obligations.FrameWithStores : Prop :=
  ∀ (i : Instr) (s t : State), exec i s = .next t →
    (∀ (acc : Access) (addr : Word), (∀ a ∈ storedAt i s, mayChange a addr = false) →
      memRead acc t addr = memRead acc s addr) ∧
    (0xFF04 ∉ storedAt i s → t.timer.fullDiv = s.timer.fullDiv) ∧
    (0xFF50 ∉ storedAt i s → t.bootOverlay = s.bootOverlay) ∧
    t.timer.timerPrev = s.timer.timerPrev ∧
    t.ppu = { s.ppu with
      lcdc := t.ppu.lcdc, statEn := t.ppu.statEn, scy := t.ppu.scy, scx := t.ppu.scx, lyc := t.ppu.lyc
      bgp := t.ppu.bgp, obp0 := t.ppu.obp0, obp1 := t.ppu.obp1, wy := t.ppu.wy, wx := t.ppu.wx } ∧
    t.frame = s.frame ∧ t.bootRom = s.bootRom ∧ t.params = s.params ∧ t.serialInput = s.serialInput ∧
    t.hostInput = s.hostInput ∧ t.drawCount = s.drawCount

/-- Every instruction writes the flags its row of the flag table says, and no other (10_state.md R17). -/
def Obligations.FlagWriters : Prop :=
  ∀ (i : Instr) (op : Byte) (rest : List Byte) (s t : State), encode i = op :: rest → exec i s = .next t →
    let row := flagRow i.table op.toNat
    row.1.Holds s.cpu.flagZ t.cpu.flagZ ∧ row.2.1.Holds s.cpu.flagN t.cpu.flagN ∧
      row.2.2.1.Holds s.cpu.flagH t.cpu.flagH ∧ row.2.2.2.Holds s.cpu.flagC t.cpu.flagC

/-- Every write to F clears its low nibble (10_state.md R18). -/
def Obligations.WritesOfFClearLowNibble : Prop :=
  ∀ (i : Instr) (s t : State), exec i s = .next t → t.cpu.f = s.cpu.f ∨ t.cpu.f &&& 0x0F = 0

/-- Every instruction costs 1 to 6 ticks (30_encoding.md R77), and one that is not listed as setting PC itself advances it
by its length (R72). -/
def Obligations.CostsAndAdvance : Prop :=
  ∀ (i : Instr) (s t : State), exec i s = .next t →
    1 ≤ t.cpu.cyclesRemaining.toNat ∧ t.cpu.cyclesRemaining.toNat ≤ 6 ∧
    (setsPc i = false → t.cpu.pc = s.cpu.pc + BitVec.ofNat 16 (encode i).length)

/-- Only `EI`, `DI`, `RETI` write `ime`, only `HALT` (and `STOP` where it is `HALT`-like) writes `halted`, only the prefix
writes `cb_prefix_pending` (10_state.md R20), and only the instructions of R15 write SP. -/
def Obligations.ControlStateWriters : Prop :=
  ∀ (i : Instr) (s t : State), exec i s = .next t →
    (t.cpu.ime ≠ s.cpu.ime → i = .ei ∨ i = .di ∨ i = .reti) ∧
    (t.cpu.halted ≠ s.cpu.halted → i = .halt ∨ ∃ n, i = .stop n ∧ s.params.stopBehaviour = .halt) ∧
    (t.cpu.cbPrefixPending ≠ s.cpu.cbPrefixPending → i = .prefix_cb) ∧
    (t.cpu.sp ≠ s.cpu.sp → writesSp i = true)

/-! Memory. -/

/-- No write and no step changes ROM or the boot ROM (20_memory.md R46). -/
def Obligations.RomNeverChanges : Prop :=
  (∀ (s : State) (addr : Word) (v : Byte), addr.toNat < 0x8000 → memWrite s addr v = s) ∧
  (∀ s t : State, step s = .next t →
    t.bootRom = s.bootRom ∧ ∀ k, k < 0x8000 → readByte t.mem k = readByte s.mem k)

/-- `MemRead` and `MemWrite` by the rows of their tables, the I/O page apart (20_memory.md R41, R42, R48, R49, R50,
R51). -/
def Obligations.AccessTables : Prop :=
  ∀ (acc : Access) (s : State) (addr : Word) (v : Byte),
    let n := addr.toNat
    let closed : Bool := decide (s.ppu.mode = .pixelTransfer)
    let oamClosed : Bool := decide (s.ppu.mode = .oamSearch ∨ s.ppu.mode = .pixelTransfer)
    (n < 0x8000 →
      (∀ boot, s.bootRom = some boot → s.bootOverlay = true → n < 0x100 → memRead acc s addr = readByte boot n) ∧
      (s.bootRom = none ∨ s.bootOverlay = false ∨ 0x100 ≤ n → memRead acc s addr = readByte s.mem n) ∧
      memWrite s addr v = s) ∧
    (0x8000 ≤ n → n < 0xA000 →
      memRead acc s addr = (if closed then 0xFF else readByte s.mem n) ∧
      memWrite s addr v = (if closed then s else { s with mem := writeByte s.mem n v })) ∧
    (0xA000 ≤ n → n < 0xC000 → memRead acc s addr = 0xFF ∧ memWrite s addr v = s) ∧
    (0xC000 ≤ n → n < 0xE000 →
      memRead acc s addr = readByte s.mem n ∧ memWrite s addr v = { s with mem := writeByte s.mem n v }) ∧
    (0xE000 ≤ n → n < 0xFE00 →
      memRead acc s addr = readByte s.mem (n - 0x2000) ∧
      memWrite s addr v = { s with mem := writeByte s.mem (n - 0x2000) v }) ∧
    (0xFE00 ≤ n → n < 0xFEA0 →
      memRead acc s addr = (if oamClosed then 0xFF else readByte s.mem n) ∧
      memWrite s addr v = (if oamClosed then s else { s with mem := writeByte s.mem n v })) ∧
    (0xFEA0 ≤ n → n < 0xFF00 → memRead acc s addr = 0xFF ∧ memWrite s addr v = s) ∧
    (0xFF80 ≤ n → n < 0xFFFF →
      memRead acc s addr = readByte s.mem n ∧ memWrite s addr v = { s with mem := writeByte s.mem n v }) ∧
    (n = 0xFFFF → memRead acc s addr = s.irq.ie ∧ memWrite s addr v = { s with irq := { s.irq with ie := v } })

/-- The I/O page: what each register reads as and what a write to it does (20_memory.md R52, R53), and what an unlisted
address does (R55), a free value (log entry 5). The stored form of STAT is the model's (log entry 17). -/
def Obligations.IoRegisters : Prop :=
  ∀ (acc : Access) (s : State) (v : Byte),
    (memRead acc s 0xFF04 = s.timer.fullDiv.extractLsb' 8 8 ∧ memRead acc s 0xFF05 = s.timer.tima ∧
      memRead acc s 0xFF06 = s.timer.tma ∧ memRead acc s 0xFF07 = s.timer.tac ∧ memRead acc s 0xFF0F = s.irq.iflag ∧
      memRead acc s 0xFF40 = s.ppu.lcdc ∧
      memRead acc s 0xFF41 =
        BitVec.ofNat 8 (8 * s.ppu.statEn.toNat + (if s.ppu.ly = s.ppu.lyc then 4 else 0) +
          match s.ppu.mode with
          | .hBlank => 0
          | .vBlank => 1
          | .oamSearch => 2
          | .pixelTransfer => 3) ∧
      memRead acc s 0xFF42 = s.ppu.scy ∧ memRead acc s 0xFF43 = s.ppu.scx ∧ memRead acc s 0xFF44 = s.ppu.ly ∧
      memRead acc s 0xFF45 = s.ppu.lyc ∧ memRead acc s 0xFF47 = s.ppu.bgp ∧ memRead acc s 0xFF48 = s.ppu.obp0 ∧
      memRead acc s 0xFF49 = s.ppu.obp1 ∧ memRead acc s 0xFF4A = s.ppu.wy ∧ memRead acc s 0xFF4B = s.ppu.wx) ∧
    (memWrite s 0xFF04 v = { s with timer := { s.timer with fullDiv := 0 } } ∧
      memWrite s 0xFF05 v = { s with timer := { s.timer with tima := v } } ∧
      memWrite s 0xFF06 v = { s with timer := { s.timer with tma := v } } ∧
      memWrite s 0xFF07 v = { s with timer := { s.timer with tac := v } } ∧
      memWrite s 0xFF0F v = { s with irq := { s.irq with iflag := v } } ∧
      memWrite s 0xFF40 v = { s with ppu := { s.ppu with lcdc := v } } ∧
      memWrite s 0xFF41 v = { s with ppu := { s.ppu with statEn := BitVec.ofNat 4 (v.toNat / 8) } } ∧
      memWrite s 0xFF42 v = { s with ppu := { s.ppu with scy := v } } ∧
      memWrite s 0xFF43 v = { s with ppu := { s.ppu with scx := v } } ∧
      memWrite s 0xFF44 v = s ∧
      memWrite s 0xFF45 v = { s with ppu := { s.ppu with lyc := v } } ∧
      memWrite s 0xFF47 v = { s with ppu := { s.ppu with bgp := v } } ∧
      memWrite s 0xFF48 v = { s with ppu := { s.ppu with obp0 := v } } ∧
      memWrite s 0xFF49 v = { s with ppu := { s.ppu with obp1 := v } } ∧
      memWrite s 0xFF4A v = { s with ppu := { s.ppu with wy := v } } ∧
      memWrite s 0xFF4B v = { s with ppu := { s.ppu with wx := v } } ∧
      memWrite s 0xFF50 v = { s with bootOverlay := false }) ∧
    (∀ addr : Word, 0xFF00 ≤ addr.toNat → addr.toNat < 0xFF80 →
      addr ∉ ([0xFF04, 0xFF05, 0xFF06, 0xFF07, 0xFF0F, 0xFF40, 0xFF41, 0xFF42, 0xFF43, 0xFF44, 0xFF45, 0xFF47, 0xFF48,
        0xFF49, 0xFF4A, 0xFF4B] : List Word) →
      memRead acc s addr = Config.ioExternalRead s.drawCount acc addr ∧ (addr ≠ 0xFF50 → memWrite s addr v = s))

/-- HRAM gives back what is written to it (20_memory.md R56), and the echo reads and writes the work RAM byte 0x2000 below
(R50). -/
def Obligations.RamReadsBack : Prop :=
  ∀ (acc : Access) (s : State) (addr : Word) (v : Byte),
    (0xFF80 ≤ addr.toNat → addr.toNat < 0xFFFF → memRead acc (memWrite s addr v) addr = v) ∧
    (0xE000 ≤ addr.toNat → addr.toNat < 0xFE00 →
      memRead acc s addr = memRead acc s (addr - 0x2000) ∧ memWrite s addr v = memWrite s (addr - 0x2000) v ∧
      memRead acc (memWrite s (addr - 0x2000) v) addr = v)

/-- Word access, little-endian and byte by byte: the lower address holds bits 7:0, a word written to two plain bytes reads
back, and a byte read sees its half (20_memory.md R43). -/
def Obligations.WordAccess : Prop :=
  ∀ (acc : Access) (s : State) (addr v : Word),
    memRead16 acc s addr = memRead acc s (addr + 1) ++ memRead acc s addr ∧
    memWrite16 s addr v = memWrite (memWrite s addr (v.extractLsb' 0 8)) (addr + 1) (v.extractLsb' 8 8) ∧
    (plainByte s addr = true → plainByte s (addr + 1) = true →
      memRead16 acc (memWrite16 s addr v) addr = v ∧
      memRead acc (memWrite16 s addr v) addr = v.extractLsb' 0 8 ∧
      memRead acc (memWrite16 s addr v) (addr + 1) = v.extractLsb' 8 8)

/-! The timer. -/

/-- `TimerStep` and `TimaTick`: the divider always counts 4; with TAC[2] set, TIMA counts on the falling edge of the
selected bit; an overflow is found before the increment, reloads TIMA from TMA and requests source 2 (60_exceptions.md
R280, R282). -/
def Obligations.TimerStepRule : Prop :=
  ∀ s : State,
    let div := s.timer.fullDiv + 4
    let cur := div.getLsbD ([9, 3, 5, 7].getD (s.timer.tac.toNat % 4) 0)
    let counted := { s with timer := { s.timer with fullDiv := div } }
    let sampled := { counted with timer := { counted.timer with timerPrev := cur } }
    (s.timer.tac.getLsbD 2 = false → timerStep s = counted) ∧
    (s.timer.tac.getLsbD 2 = true → ¬(s.timer.timerPrev = true ∧ cur = false) → timerStep s = sampled) ∧
    (s.timer.tac.getLsbD 2 = true → s.timer.timerPrev = true → cur = false → s.timer.tima ≠ 0xFF →
      timerStep s = { sampled with timer := { sampled.timer with tima := s.timer.tima + 1 } }) ∧
    (s.timer.tac.getLsbD 2 = true → s.timer.timerPrev = true → cur = false → s.timer.tima = 0xFF →
      timerStep s = { sampled with timer := { sampled.timer with tima := s.timer.tma }
                                   irq := { s.irq with iflag := s.irq.iflag ||| 0x04 } })

/-- The periods of 60_exceptions.md R281: from a state whose sample agrees with the divider, `2^(b+1) / 4` timer steps
with selected bit b count TIMA once (256, 4, 16 or 64 ticks). -/
def Obligations.TimaPeriod : Prop :=
  ∀ (s : State) (bit period : Nat),
    (bit, period) = [(9, 256), (3, 4), (5, 16), (7, 64)].getD (s.timer.tac.toNat % 4) (0, 0) →
    s.timer.tac.getLsbD 2 = true → s.timer.fullDiv.toNat % 4 = 0 → s.timer.timerPrev = s.timer.fullDiv.getLsbD bit →
    s.timer.tima ≠ 0xFF →
    (timerStep^[period] s).timer.tima = s.timer.tima + 1 ∧ (timerStep^[period] s).irq = s.irq

/-! The PPU. -/

/-- `OamSearchRun`: `visible` holds exactly the first ten entries on the line in OAM order, sorted by screen x, ties in OAM
order; nothing else changes (60_exceptions.md R305). -/
def Obligations.OamSearch : Prop :=
  ∀ s : State,
    let found := (oamSearchRun s).ppu.visible
    oamSearchRun s = { s with ppu := { s.ppu with visible := found } } ∧
    found.Pairwise (fun v w => v.screenX < w.screenX ∨ (v.screenX = w.screenX ∧ v.index < w.index)) ∧
    (∀ v : VisibleSprite, v ∈ found ↔
      onLine s v.index = true ∧ v.screenX = ((oamEntry s v.index 1).toNat : Int) - 8 ∧
      ((List.finRange 40).filter (fun k => decide (k < v.index) && onLine s k)).length < 10)

/-- `FetchTileRow`: the map, the column and the row of the background or the window, the tile's data area, and the eight
pixels from bit 7 down; it is fetched whenever `bg_fifo` holds at most 8 (60_exceptions.md R313). -/
def Obligations.TileRow : Prop :=
  ∀ s : State,
    let p := s.ppu
    let map := if p.lcdc.getLsbD (if p.windowActive then 6 else 3) then 0x9C00 else 0x9800
    let col := if p.windowActive then p.fetchN % 32 else (p.scx.toNat / 8 + p.fetchN) % 32
    let y := if p.windowActive then p.windowLineInternal.toNat else (p.scy.toNat + p.ly.toNat) % 256
    let id := readByte s.mem (map + 32 * (y / 8) + col)
    let data := if p.lcdc.getLsbD 4 then 0x8000 + 16 * id.toNat
      else if id.toNat < 128 then 0x9000 + 16 * id.toNat else 0x8000 + 16 * id.toNat
    let lo := readByte s.mem (data + 2 * (y % 8))
    let hi := readByte s.mem (data + 2 * (y % 8) + 1)
    tileRow s =
      [7, 6, 5, 4, 3, 2, 1, 0].map (fun b => BitVec.ofNat 2 (2 * (hi.getLsbD b).toNat + (lo.getLsbD b).toNat)) ∧
    refillBackground s =
      if p.bgFifo.length ≤ 8 then { s with ppu := { p with bgFifo := p.bgFifo ++ tileRow s, fetchN := p.fetchN + 1 } }
      else s

/-- `MergeSprite(k)`: a sprite pixel enters a slot only if the slot holds colour 0, the slots padded to eight with
transparent pixels; the pixel's bits, palette and priority by the flips and attribute bits (60_exceptions.md R315). The
tile bytes are read by the PPU's own read, which outside VRAM is the free value of log entry 6. -/
def Obligations.MergeSpriteRule : Prop :=
  ∀ (s : State) (k : Fin 40) (i : Nat), i < 8 →
    let attr := oamEntry s k 3
    let h : Int := if s.ppu.lcdc.getLsbD 2 then 16 else 8
    let row : Int := (s.ppu.ly.toNat : Int) + 16 - (oamEntry s k 0).toNat
    let row := if attr.getLsbD 6 then h - 1 - row else row
    let tile := if s.ppu.lcdc.getLsbD 2 then oamEntry s k 2 &&& 0xFE else oamEntry s k 2
    let lo := vramByte s (0x8000 + 16 * (tile.toNat : Int) + 2 * row)
    let hi := vramByte s (0x8000 + 16 * (tile.toNat : Int) + 2 * row + 1)
    let b := if attr.getLsbD 5 then i else 7 - i
    let px : OamPixel :=
      { colour := BitVec.ofNat 2 (2 * (hi.getLsbD b).toNat + (lo.getLsbD b).toNat), palette := attr.getLsbD 4
        priority := attr.getLsbD 7 }
    let slot := s.ppu.oamFifo.getD i { colour := 0, palette := false, priority := false }
    (mergeSprite s k).ppu.oamFifo[i]? = some (if slot.colour = 0 then px else slot) ∧
    (mergeSprite s k).ppu.oamFifo.length = max 8 s.ppu.oamFifo.length ∧
    mergeSprite s k = { s with ppu := { s.ppu with oamFifo := (mergeSprite s k).ppu.oamFifo } }

/-- The mixing rule: a sprite pixel overrides the background unless it is transparent, or its priority bit is set and the
background index is not 0; the shade comes from BGP, OBP0 or OBP1; one pixel of the frame buffer is written and the cursor
moves (60_exceptions.md R316). -/
def Obligations.Mixing : Prop :=
  ∀ (s : State) (bg : Colour), s.ppu.ly.toNat < 144 → s.ppu.drawX < 160 →
    let t := commitPixel s bg
    let shade :=
      match s.ppu.oamFifo with
      | [] => shadeOf s.ppu.bgp bg
      | px :: _ =>
        if px.colour ≠ 0 ∧ ¬(px.priority = true ∧ bg ≠ 0) then
          shadeOf (if px.palette then s.ppu.obp1 else s.ppu.obp0) px.colour
        else shadeOf s.ppu.bgp bg
    readPixel t.frame s.ppu.drawX s.ppu.ly.toNat = shade ∧
    (∀ x y, x < 160 → (x, y) ≠ (s.ppu.drawX, s.ppu.ly.toNat) → readPixel t.frame x y = readPixel s.frame x y) ∧
    t = { s with frame := t.frame
                 ppu := { s.ppu with oamFifo := s.ppu.oamFifo.tail, drawX := s.ppu.drawX + 1 } }

/-- The window trigger: it fires at most once a line, when enabled, on its rows and from `draw_x + 7 >= WX` on; it flushes
`bg_fifo`, restarts the fetch and cancels the fine scroll; once active the window stays active (60_exceptions.md R312). -/
def Obligations.WindowTrigger : Prop :=
  ∀ s : State,
    let fires : Bool := decide (s.ppu.windowActive = false ∧ s.ppu.lcdc.getLsbD 5 = true ∧
      s.ppu.wy.toNat ≤ s.ppu.ly.toNat ∧ s.ppu.wx.toNat ≤ s.ppu.drawX + 7)
    startWindow s =
      (if fires then
        { s with ppu := { s.ppu with bgFifo := [], windowActive := true, fetchN := 0, discardLeft := 0 } }
      else s) ∧
    (pixelIteration s).ppu.windowActive = (s.ppu.windowActive || fires)

/-- A PPU step requests source 0 exactly in the step that makes LY 144, and source 1 exactly on a 0 to 1 transition of the
combined STAT condition, and nothing else; it changes no other interrupt bit (60_exceptions.md R320, R322). -/
def Obligations.PpuRequestsExactly : Prop :=
  ∀ s : State, Inv s →
    let p := (ppuStep s).ppu
    (ppuStep s).irq =
      { s.irq with iflag := s.irq.iflag ||| (if s.ppu.ly = 143 ∧ p.ly = 144 then 0x01 else 0x00) |||
          (if statCondition p = true ∧ s.ppu.statIrqLatched = false then 0x02 else 0x00) } ∧
    p.statIrqLatched = statCondition p

/-- The frame: every step, whatever the program and the host do, moves the PPU one tick on in a frame of 154 lines of 114
ticks, and `frame_ready` is up exactly at its start (60_exceptions.md R301, R326). -/
def Obligations.FrameLasts17556Ticks : Prop :=
  ∀ (n : Nat) (s t : State), Inv s → core.run n s = .next t →
    framePosition t = (framePosition s + n) % 17556 ∧
    (0 < n → (t.ppu.frameReady = true ↔ framePosition t = 0))

/-- The mode by the place in the line, at every rate of at least 4: OamSearch for 20 ticks, PixelTransfer for 43, HBlank
for 51, VBlank from line 144 on (60_exceptions.md R301, R302). -/
def Obligations.ModeByLinePosition : Prop :=
  ∀ s t : State, Inv s → 4 ≤ s.params.pixelItersPerTick → step s = .next t →
    t.ppu.mode =
      if 144 ≤ t.ppu.ly.toNat then .vBlank
      else if t.ppu.lineCycle < 20 then .oamSearch
      else if t.ppu.lineCycle < 63 then .pixelTransfer
      else .hBlank

/-- A PPU step writes no memory and no register of another agent, and of the frame buffer only the row LY (20_memory.md
R60, 10_state.md R38). -/
def Obligations.PpuWritesOnlyItsRow : Prop :=
  ∀ s : State,
    ppuStep s = { s with ppu := (ppuStep s).ppu, irq := (ppuStep s).irq, frame := (ppuStep s).frame } ∧
    ∀ x y, x < 160 → y ≠ s.ppu.ly.toNat → readPixel (ppuStep s).frame x y = readPixel s.frame x y

/-! Requests. -/

/-- `SerialStep` requests source 3 exactly when its environment asks and changes nothing else (00_scope.md R7); the PPU,
the timer and the serial agent set IF bits and never clear one, and never write IE (60_exceptions.md R261). The
environment is the list of log entry 7. -/
def Obligations.RequestsAreLatched : Prop :=
  ∀ s : State,
    serialStep s =
      (match s.serialInput with
      | [] => s
      | true :: rest => { s with serialInput := rest, irq := { s.irq with iflag := s.irq.iflag ||| 0x08 } }
      | false :: rest => { s with serialInput := rest }) ∧
    (afterCpu s).irq.ie = s.irq.ie ∧ s.irq.iflag &&& (afterCpu s).irq.iflag = s.irq.iflag
end

