-- ==== Sys2Proof/Laws/Arith.lean ====
section
/-! SUPPORT. The arithmetic of bytes, words and flags: each flag computation of Machine/Flags.lean as a closed formula. -/

namespace Sys2Proof.Machine

/-! Bytes of a word. -/

theorem toNat_joinBytes (hi lo : Byte) : (joinBytes hi lo).toNat = hi.toNat * 256 + lo.toNat := by
  show (hi ++ lo).toNat = _
  rw [BitVec.toNat_append, ← Nat.shiftLeft_add_eq_or_of_lt lo.isLt, Nat.shiftLeft_eq]

theorem toNat_hiByte (v : Word) : (hiByte v).toNat = v.toNat / 256 := by
  have := v.isLt
  simp [hiByte, BitVec.extractLsb'_toNat, Nat.shiftRight_eq_div_pow]
  omega

theorem toNat_loByte (v : Word) : (loByte v).toNat = v.toNat % 256 := by simp [loByte, BitVec.extractLsb'_toNat]

@[simp] theorem hiByte_joinBytes (hi lo : Byte) : hiByte (joinBytes hi lo) = hi := by
  have := lo.isLt
  exact BitVec.eq_of_toNat_eq (by rw [toNat_hiByte, toNat_joinBytes]; omega)

@[simp] theorem loByte_joinBytes (hi lo : Byte) : loByte (joinBytes hi lo) = lo := by
  have := lo.isLt
  exact BitVec.eq_of_toNat_eq (by rw [toNat_loByte, toNat_joinBytes]; omega)

@[simp] theorem joinBytes_hiByte_loByte (v : Word) : joinBytes (hiByte v) (loByte v) = v :=
  BitVec.eq_of_toNat_eq (by rw [toNat_joinBytes, toNat_hiByte, toNat_loByte]; omega)

/-! Flags. -/

theorem packFlags_eq_flagByte (z n h c : Bool) : packFlags z n h c = flagByte z n h c := by
  cases z <;> cases n <;> cases h <;> cases c <;> rfl

theorem flagByte_low (z n h c : Bool) : flagByte z n h c &&& 0x0F = 0 := by
  cases z <;> cases n <;> cases h <;> cases c <;> rfl

/-- The four flags of a flag byte are the flags it was made of. -/
theorem flagByte_bits (z n h c : Bool) :
    (flagByte z n h c).getLsbD 7 = z ∧ (flagByte z n h c).getLsbD 6 = n ∧ (flagByte z n h c).getLsbD 5 = h ∧
      (flagByte z n h c).getLsbD 4 = c := by
  cases z <;> cases n <;> cases h <;> cases c <;> decide

/-! The eight operations. -/

theorem add8_eq (a b : Byte) :
    add8 a b = ⟨a + b, decide (a + b = 0), false, decide (a.toNat % 16 + b.toNat % 16 > 15),
      decide (a.toNat + b.toNat > 255)⟩ := by
  have hz : ((a.toNat + b.toNat) % 256 == 0) = decide (a + b = 0) := by
    rw [beq_eq_decide]; congr 1; rw [← BitVec.toNat_inj]; simp
  simp only [add8, loNibble, hz]
  congr 1

theorem adc8_eq (a b : Byte) (c : Bool) :
    adc8 a b c = ⟨a + b + BitVec.ofNat 8 c.toNat, decide (a + b + BitVec.ofNat 8 c.toNat = 0), false,
      decide (a.toNat % 16 + b.toNat % 16 + c.toNat > 15), decide (a.toNat + b.toNat + c.toNat > 255)⟩ := by
  have hv : BitVec.ofNat 8 (a.toNat + b.toNat + c.toNat) = a + b + BitVec.ofNat 8 c.toNat :=
    BitVec.eq_of_toNat_eq (by simp)
  have hz : ((a.toNat + b.toNat + c.toNat) % 256 == 0) = decide (a + b + BitVec.ofNat 8 c.toNat = 0) := by
    rw [beq_eq_decide, ← hv]; congr 1; rw [← BitVec.toNat_inj]; simp
  simp only [adc8, loNibble, hz, hv]
  congr

theorem sub8_eq (a b : Byte) :
    sub8 a b = ⟨a - b, decide (a = b), true, decide (a.toNat % 16 < b.toNat % 16), decide (a.toNat < b.toNat)⟩ := by
  have ha := a.isLt
  have hb := b.isLt
  have hv : BitVec.ofInt 8 ((a.toNat : Int) - b.toNat) = a - b := by
    apply BitVec.eq_of_toNat_eq; simp [BitVec.toNat_ofInt, BitVec.toNat_sub]; omega
  have hz : (((a.toNat : Int) - b.toNat) % 256 == 0) = decide (a = b) := by
    rw [beq_eq_decide]; congr 1; rw [← BitVec.toNat_inj]; simp only [eq_iff_iff]; omega
  simp only [sub8, loNibble, hz, hv]
  congr

theorem sbc8_eq (a b : Byte) (c : Bool) :
    sbc8 a b c = ⟨a - b - BitVec.ofNat 8 c.toNat, decide (a - b - BitVec.ofNat 8 c.toNat = 0), true,
      decide (a.toNat % 16 < b.toNat % 16 + c.toNat), decide (a.toNat < b.toNat + c.toNat)⟩ := by
  have ha := a.isLt
  have hb := b.isLt
  have hc := Bool.toNat_lt c
  have hv : BitVec.ofInt 8 ((a.toNat : Int) - b.toNat - c.toNat) = a - b - BitVec.ofNat 8 c.toNat := by
    apply BitVec.eq_of_toNat_eq; simp [BitVec.toNat_ofInt, BitVec.toNat_sub]; omega
  have hz : (((a.toNat : Int) - b.toNat - c.toNat) % 256 == 0) = decide (a - b - BitVec.ofNat 8 c.toNat = 0) := by
    rw [beq_eq_decide]; congr 1; rw [← BitVec.toNat_inj]
    simp [BitVec.toNat_sub, eq_iff_iff]; omega
  have hcf : decide ((a.toNat : Int) - b.toNat - c.toNat < 0) = decide (a.toNat < b.toNat + c.toNat) := by
    congr 1; simp only [eq_iff_iff]; omega
  simp only [sbc8, loNibble, hz, hv, hcf]
  congr 1
  exact decide_eq_decide.mpr (by omega)

theorem inc8_eq (v : Byte) (c : Bool) :
    inc8 v c = ⟨v + 1, decide (v = 0xFF), false, decide (v.toNat % 16 = 15), c⟩ := by
  have hv := v.isLt
  have hr : BitVec.ofNat 8 (v.toNat + 1) = v + 1 := BitVec.eq_of_toNat_eq (by simp)
  have hz : ((v.toNat + 1) % 256 == 0) = decide (v = 0xFF) := by
    rw [beq_eq_decide]; congr 1; rw [← BitVec.toNat_inj]; simp [eq_iff_iff]; omega
  simp only [inc8, loNibble, hz, hr, beq_eq_decide]

theorem dec8_eq (v : Byte) (c : Bool) :
    dec8 v c = ⟨v - 1, decide (v = 0x01), true, decide (v.toNat % 16 = 0), c⟩ := by
  have hv := v.isLt
  have hr : BitVec.ofInt 8 ((v.toNat : Int) - 1) = v - 1 := by
    apply BitVec.eq_of_toNat_eq; simp [BitVec.toNat_ofInt, BitVec.toNat_sub]; omega
  have hz : (((v.toNat : Int) - 1) % 256 == 0) = decide (v = 0x01) := by
    rw [beq_eq_decide]; congr 1; rw [← BitVec.toNat_inj]; simp [eq_iff_iff]; omega
  simp only [dec8, loNibble, hz, hr, beq_eq_decide]

/-- The rotates and shifts by their table, flags with it. -/
theorem rotResult_eq (op : RotOp) (v : Byte) (c : Bool) :
    rotResult op v c = ⟨(rotated op v c).1, decide ((rotated op v c).1 = 0), false, false, (rotated op v c).2⟩ := by
  revert v c
  cases op <;> decide

theorem addHl16_eq (a b : Word) :
    addHl16 a b = ⟨a + b, decide (a.toNat % 4096 + b.toNat % 4096 > 4095), decide (a.toNat + b.toNat > 65535)⟩ := by
  have hr : BitVec.ofNat 16 (a.toNat + b.toNat) = a + b := BitVec.eq_of_toNat_eq (by simp)
  simp only [addHl16, hr]

theorem addSp16_eq (sp : Word) (e : Byte) :
    addSp16 sp e = ⟨sp + e.signExtend 16, decide (sp.toNat % 16 + e.toNat % 16 > 15),
      decide (sp.toNat % 256 + e.toNat > 255)⟩ := rfl

theorem highPage_eq (n : Byte) : highPage n = (0xFF : Byte) ++ n := by
  revert n; decide

/-- The shade of a palette entry is two bits of its register. -/
theorem paletteShade_eq (reg : Byte) (i : Colour) : paletteShade reg i = shadeOf reg i := by
  revert reg i; decide

theorem planeColour_eq (hi lo : Byte) (b : Nat) :
    planeColour hi lo b = BitVec.ofNat 2 (2 * (hi.getLsbD b).toNat + (lo.getLsbD b).toNat) := by
  unfold planeColour
  cases hi.getLsbD b <;> cases lo.getLsbD b <;> rfl

theorem testBit_eq (b : Fin 8) (v : Byte) : (!v.getLsbD b) = decide (v.toNat / 2 ^ b.val % 2 = 0) := by
  rw [BitVec.getLsbD, Nat.testBit_eq_decide_div_mod_eq]
  have := Nat.mod_two_eq_zero_or_one (v.toNat / 2 ^ b.val)
  rcases this with h | h <;> simp [h]

theorem oneBit_eq (b : Fin 8) : (1 : Byte) <<< b.val = BitVec.ofNat 8 (2 ^ b.val) := by
  revert b; decide

end Sys2Proof.Machine
end

