-- ==== Sys2Proof/Laws/Cells.lean ====
section
/-! SUPPORT. The laws of cell lists: what a write reads back as, and that it keeps the canonical form. -/

namespace Sys2Proof.Machine

variable {w : Nat} {unlisted : Nat → BitVec w} {stored : Nat → Bool}

@[simp] theorem readCells_nil (k : Nat) : readCells unlisted [] k = unlisted k := rfl

theorem readCells_cons (c : Nat × BitVec w) (rest : List (Nat × BitVec w)) (k : Nat) :
    readCells unlisted (c :: rest) k = if k = c.1 then c.2 else readCells unlisted rest k := rfl

theorem readCells_eraseCell (cells : List (Nat × BitVec w)) (k k' : Nat) :
    readCells unlisted (eraseCell cells k) k' = if k' = k then unlisted k' else readCells unlisted cells k' := by
  induction cells with
  | nil => simp [eraseCell]
  | cons c rest ih =>
    simp only [eraseCell] at ih
    by_cases hc : c.1 = k
    · simp only [eraseCell, List.filter_cons, hc, bne_self_eq_false, Bool.false_eq_true, if_false, ih, readCells_cons]
      split <;> simp_all
    · have hb : (c.1 != k) = true := by simpa using hc
      simp only [eraseCell, List.filter_cons, hb, if_true, readCells_cons, ih]
      split
      · rename_i h; subst h; simp [hc]
      · rfl

theorem readCells_insertCell (k : Nat) (v : BitVec w) (cells : List (Nat × BitVec w))
    (fresh : ∀ c ∈ cells, c.1 ≠ k) (k' : Nat) :
    readCells unlisted (insertCell k v cells) k' = if k' = k then v else readCells unlisted cells k' := by
  induction cells with
  | nil => simp [insertCell, readCells_cons]
  | cons c rest ih =>
    have ih := ih (fun c hc => fresh c (List.mem_cons_of_mem _ hc))
    have hc : c.1 ≠ k := fresh c List.mem_cons_self
    simp only [insertCell]
    split
    · simp [readCells_cons]
    · simp only [readCells_cons, ih]
      split
      · rename_i h; subst h; simp [hc]
      · rfl

theorem mem_eraseCell {cells : List (Nat × BitVec w)} {k : Nat} {c : Nat × BitVec w} :
    c ∈ eraseCell cells k ↔ c ∈ cells ∧ c.1 ≠ k := by simp [eraseCell]

/-- A write changes what its own key reads as, and nothing else. -/
theorem readCells_writeCells (cells : List (Nat × BitVec w)) (k k' : Nat) (v : BitVec w) :
    readCells unlisted (writeCells unlisted cells k v) k' = if k' = k then v else readCells unlisted cells k' := by
  simp only [writeCells]
  split
  · rename_i hv
    rw [readCells_eraseCell]
    split
    · rename_i h; rw [h, hv]
    · rfl
  · rw [readCells_insertCell _ _ _ (fun c hc => (mem_eraseCell.mp hc).2), readCells_eraseCell]
    split <;> simp_all

theorem mem_insertCell {k : Nat} {v : BitVec w} {cells : List (Nat × BitVec w)} {c : Nat × BitVec w} :
    c ∈ insertCell k v cells ↔ c = (k, v) ∨ c ∈ cells := by
  induction cells with
  | nil => simp [insertCell]
  | cons d rest ih =>
    simp only [insertCell]
    split
    · simp
    · simp only [List.mem_cons, ih]; tauto

theorem pairwise_insertCell {k : Nat} {v : BitVec w} {cells : List (Nat × BitVec w)}
    (h : cells.Pairwise (fun x y => x.1 < y.1)) (fresh : ∀ c ∈ cells, c.1 ≠ k) :
    (insertCell k v cells).Pairwise (fun x y => x.1 < y.1) := by
  induction cells with
  | nil => simp [insertCell]
  | cons d rest ih =>
    obtain ⟨hd, hr⟩ := List.pairwise_cons.mp h
    have hne : d.1 ≠ k := fresh d List.mem_cons_self
    simp only [insertCell]
    split
    · rename_i hk
      refine List.pairwise_cons.mpr ⟨fun x hx => ?_, h⟩
      rcases List.mem_cons.mp hx with rfl | hx
      · exact hk
      · exact Nat.lt_trans hk (hd x hx)
    · rename_i hk
      refine List.pairwise_cons.mpr ⟨fun x hx => ?_, ih hr (fun c hc => fresh c (List.mem_cons_of_mem _ hc))⟩
      rcases mem_insertCell.mp hx with rfl | hx
      · simp only at hk ⊢; omega
      · exact hd x hx

/-- A write under an allowed key keeps the canonical form. -/
theorem wfCells_writeCells {cells : List (Nat × BitVec w)} (h : wfCells unlisted stored cells) {k : Nat}
    (hk : stored k = true) (v : BitVec w) : wfCells unlisted stored (writeCells unlisted cells k v) := by
  have herase : wfCells unlisted stored (eraseCell cells k) :=
    ⟨h.1.filter _, fun c hc => h.2 c (mem_eraseCell.mp hc).1⟩
  simp only [writeCells]
  split
  · exact herase
  · rename_i hv
    refine ⟨pairwise_insertCell herase.1 (fun c hc => (mem_eraseCell.mp hc).2), fun c hc => ?_⟩
    rcases mem_insertCell.mp hc with rfl | hc
    · exact ⟨hk, hv⟩
    · exact herase.2 c hc

theorem readCells_eq_unlisted {cells : List (Nat × BitVec w)} {k : Nat} (h : ∀ c ∈ cells, c.1 ≠ k) :
    readCells unlisted cells k = unlisted k := by
  induction cells with
  | nil => rfl
  | cons c rest ih =>
    have hc : ¬k = c.1 := fun e => h c List.mem_cons_self e.symm
    rw [readCells_cons, if_neg hc]
    exact ih (fun d hd => h d (List.mem_cons_of_mem _ hd))

/-- Canonical lists that read alike are equal lists. -/
theorem wfCells_ext {xs ys : List (Nat × BitVec w)} (hx : wfCells unlisted stored xs) (hy : wfCells unlisted stored ys)
    (h : ∀ k, readCells unlisted xs k = readCells unlisted ys k) : xs = ys := by
  have above : ∀ {zs : List (Nat × BitVec w)} {c d : Nat × BitVec w}, wfCells unlisted stored (c :: zs) →
      d ∈ zs → c.1 < d.1 := fun hz hd => (List.pairwise_cons.mp hz.1).1 _ hd
  have tail : ∀ {zs : List (Nat × BitVec w)} {c : Nat × BitVec w}, wfCells unlisted stored (c :: zs) →
      wfCells unlisted stored zs :=
    fun hz => ⟨(List.pairwise_cons.mp hz.1).2, fun d hd => hz.2 d (List.mem_cons_of_mem _ hd)⟩
  induction xs generalizing ys with
  | nil =>
    cases ys with
    | nil => rfl
    | cons d ys =>
      have := h d.1
      rw [readCells_nil, readCells_cons, if_pos rfl] at this
      exact absurd this.symm (hy.2 d List.mem_cons_self).2
  | cons c xs ih =>
    cases ys with
    | nil =>
      have := h c.1
      rw [readCells_nil, readCells_cons, if_pos rfl] at this
      exact absurd this (hx.2 c List.mem_cons_self).2
    | cons d ys =>
      have key : c.1 = d.1 := by
        rcases Nat.lt_trichotomy c.1 d.1 with hlt | heq | hgt
        · have := h c.1
          rw [readCells_cons, if_pos rfl, readCells_eq_unlisted] at this
          · exact absurd this (hx.2 c List.mem_cons_self).2
          · intro e he
            rcases List.mem_cons.mp he with rfl | he
            · omega
            · have := above hy he; omega
        · exact heq
        · have := h d.1
          rw [readCells_cons (c := d), if_pos rfl, readCells_eq_unlisted] at this
          · exact absurd this.symm (hy.2 d List.mem_cons_self).2
          · intro e he
            rcases List.mem_cons.mp he with rfl | he
            · omega
            · have := above hx he; omega
      have val : c.2 = d.2 := by
        have := h c.1
        rwa [readCells_cons, if_pos rfl, readCells_cons, if_pos key] at this
      have rest : xs = ys := by
        refine ih (tail hx) (tail hy) (fun k => ?_)
        by_cases hk : k = c.1
        · rw [readCells_eq_unlisted, readCells_eq_unlisted]
          · intro e he; have := above hy he; omega
          · intro e he; have := above hx he; omega
        · have := h k
          rwa [readCells_cons, if_neg hk, readCells_cons, if_neg (by omega)] at this
      rw [rest, Prod.ext key val]

end Sys2Proof.Machine
end

