-- ==== Sys2Proof/Laws/Encode.lean ====
section
/-! SUPPORT. The opcode grids against the encoder, entry by entry. -/

namespace Sys2Proof

/-- What an entry of table `t` under byte `op` encodes to: `op` and its operand bytes, in table `t`. -/
def Entry.Encodes (t : Table) (op : Byte) : Entry → Prop
  | .one i => encode i = [op] ∧ i.table = t
  | .two f => ∀ n, encode (f n) = [op, n] ∧ (f n).table = t
  | .three f => ∀ nn, encode (f nn) = [op, nn.extractLsb' 0 8, nn.extractLsb' 8 8] ∧ (f nn).table = t

/-- A byte by its nibbles. -/
def ofNibbles (row col : Fin 16) : Byte := BitVec.ofNat 8 (16 * row.val + col.val)

theorem eq_ofNibbles (op : Byte) : op = ofNibbles (op.extractLsb' 4 4).toFin (op.extractLsb' 0 4).toFin := by
  revert op; decide

theorem main_encodes (row col : Fin 16) : (mainTable[row][col]).Encodes .main (ofNibbles row col) := by
  fin_cases row <;> fin_cases col <;> first | exact ⟨rfl, rfl⟩ | exact fun _ => ⟨rfl, rfl⟩

theorem cb_encodes (row col : Fin 16) : (cbTable[row][col]).Encodes .cb (ofNibbles row col) := by
  fin_cases row <;> fin_cases col <;> exact ⟨rfl, rfl⟩

/-- Every entry encodes to its own byte in its own table. -/
theorem entryOf_encodes (t : Table) (op : Byte) : (entryOf t op).Encodes t op := by
  have h := eq_ofNibbles op
  cases t
  · have := main_encodes (op.extractLsb' 4 4).toFin (op.extractLsb' 0 4).toFin
    rwa [← h] at this
  · have := cb_encodes (op.extractLsb' 4 4).toFin (op.extractLsb' 0 4).toFin
    rwa [← h] at this

theorem imm16_halves (nn : Word) : imm16 (nn.extractLsb' 0 8) (nn.extractLsb' 8 8) = nn :=
  Machine.joinBytes_hiByte_loByte nn

theorem halves_imm16 (low high : Byte) :
    (imm16 low high).extractLsb' 0 8 = low ∧ (imm16 low high).extractLsb' 8 8 = high :=
  ⟨Machine.loByte_joinBytes high low, Machine.hiByte_joinBytes high low⟩

/-- The three bytes at PC always decode. -/
theorem decode_fetched (t : Table) (op b1 b2 : Byte) :
    ∃ rest, decode t [op, b1, b2] = .ok (decodeFetched t op b1 b2, rest) := by
  cases h : entryOf t op <;> simp [decode, decodeFetched, h]

end Sys2Proof
end

