-- ==== Sys2Proof/Laws/Forms.lean ====
section
/-! SUPPORT. The instructions by form: a case analysis over the forms of 40_load8.md to 46_misc_system.md, and what `exec`
is on each. A proof about every instruction cites these and never unfolds `exec`. -/

namespace Sys2Proof

/-- Case analysis on an instruction by its form. -/
theorem Instr.forms {P : Instr → Prop}
    (ldRegReg : ∀ (r : Reg8) (r' : Reg8), P (Instr.ldRegReg r r'))
    (ldRegImm : ∀ (r : Reg8) (n : Byte), P (Instr.ldRegImm r n))
    (ldRegHl : ∀ (r : Reg8), P (Instr.ldRegHl r))
    (ldHlReg : ∀ (r : Reg8), P (Instr.ldHlReg r))
    (ldPairImm : ∀ (p : Pair) (nn : Word), P (Instr.ldPairImm p nn))
    (pushPair : ∀ (p : StackPair), P (Instr.pushPair p))
    (popPair : ∀ (p : StackPair), P (Instr.popPair p))
    (aluReg : ∀ (op : AluOp) (r : Reg8), P (Instr.aluReg op r))
    (aluHl : ∀ (op : AluOp), P (Instr.aluHl op))
    (aluImm : ∀ (op : AluOp) (n : Byte), P (Instr.aluImm op n))
    (incReg : ∀ (r : Reg8), P (Instr.incReg r))
    (decReg : ∀ (r : Reg8), P (Instr.decReg r))
    (addHlPair : ∀ (p : Pair), P (Instr.addHlPair p))
    (incPair : ∀ (p : Pair), P (Instr.incPair p))
    (decPair : ∀ (p : Pair), P (Instr.decPair p))
    (rotReg : ∀ (op : RotOp) (r : Reg8), P (Instr.rotReg op r))
    (rotHl : ∀ (op : RotOp), P (Instr.rotHl op))
    (bitReg : ∀ (b : Fin 8) (r : Reg8), P (Instr.bitReg b r))
    (bitHl : ∀ (b : Fin 8), P (Instr.bitHl b))
    (resReg : ∀ (b : Fin 8) (r : Reg8), P (Instr.resReg b r))
    (resHl : ∀ (b : Fin 8), P (Instr.resHl b))
    (setBitReg : ∀ (b : Fin 8) (r : Reg8), P (Instr.setBitReg b r))
    (setBitHl : ∀ (b : Fin 8), P (Instr.setBitHl b))
    (jpCc : ∀ (cc : Cond) (nn : Word), P (Instr.jpCc cc nn))
    (jrCc : ∀ (cc : Cond) (e : Byte), P (Instr.jrCc cc e))
    (callCc : ∀ (cc : Cond) (nn : Word), P (Instr.callCc cc nn))
    (retCc : ∀ (cc : Cond), P (Instr.retCc cc))
    (rst : ∀ (b : Fin 8), P (Instr.rst b))
    (unassigned : ∀ (u : Unassigned), P (Instr.unassigned u))
    (nop : P .nop)
    (ld_atBc_a : P .ld_atBc_a)
    (rlca : P .rlca)
    (ld_atA16_sp : ∀ (nn : Word), P (.ld_atA16_sp nn))
    (ld_a_atBc : P .ld_a_atBc)
    (rrca : P .rrca)
    (stop : ∀ (n : Byte), P (.stop n))
    (ld_atDe_a : P .ld_atDe_a)
    (rla : P .rla)
    (jr_e : ∀ (e : Byte), P (.jr_e e))
    (ld_a_atDe : P .ld_a_atDe)
    (rra : P .rra)
    (ld_atHlInc_a : P .ld_atHlInc_a)
    (daa : P .daa)
    (ld_a_atHlInc : P .ld_a_atHlInc)
    (cpl : P .cpl)
    (ld_atHlDec_a : P .ld_atHlDec_a)
    (inc_atHl : P .inc_atHl)
    (dec_atHl : P .dec_atHl)
    (ld_atHl_d8 : ∀ (n : Byte), P (.ld_atHl_d8 n))
    (scf : P .scf)
    (ld_a_atHlDec : P .ld_a_atHlDec)
    (ccf : P .ccf)
    (halt : P .halt)
    (jp_a16 : ∀ (nn : Word), P (.jp_a16 nn))
    (ret : P .ret)
    (prefix_cb : P .prefix_cb)
    (call_a16 : ∀ (nn : Word), P (.call_a16 nn))
    (reti : P .reti)
    (ldh_atA8_a : ∀ (n : Byte), P (.ldh_atA8_a n))
    (ld_atC_a : P .ld_atC_a)
    (add_sp_e : ∀ (e : Byte), P (.add_sp_e e))
    (jp_hl : P .jp_hl)
    (ld_atA16_a : ∀ (nn : Word), P (.ld_atA16_a nn))
    (ldh_a_atA8 : ∀ (n : Byte), P (.ldh_a_atA8 n))
    (ld_a_atC : P .ld_a_atC)
    (di : P .di)
    (ld_hl_sp_e : ∀ (e : Byte), P (.ld_hl_sp_e e))
    (ld_sp_hl : P .ld_sp_hl)
    (ld_a_atA16 : ∀ (nn : Word), P (.ld_a_atA16 nn))
    (ei : P .ei)
    (i : Instr) : P i :=
  match i with
  | .nop => nop
  | .ld_bc_d16 nn => ldPairImm .bc nn
  | .ld_atBc_a => ld_atBc_a
  | .inc_bc => incPair .bc
  | .inc_b => incReg .b
  | .dec_b => decReg .b
  | .ld_b_d8 n => ldRegImm .b n
  | .rlca => rlca
  | .ld_atA16_sp nn => ld_atA16_sp nn
  | .add_hl_bc => addHlPair .bc
  | .ld_a_atBc => ld_a_atBc
  | .dec_bc => decPair .bc
  | .inc_c => incReg .c
  | .dec_c => decReg .c
  | .ld_c_d8 n => ldRegImm .c n
  | .rrca => rrca
  | .stop n => stop n
  | .ld_de_d16 nn => ldPairImm .de nn
  | .ld_atDe_a => ld_atDe_a
  | .inc_de => incPair .de
  | .inc_d => incReg .d
  | .dec_d => decReg .d
  | .ld_d_d8 n => ldRegImm .d n
  | .rla => rla
  | .jr_e e => jr_e e
  | .add_hl_de => addHlPair .de
  | .ld_a_atDe => ld_a_atDe
  | .dec_de => decPair .de
  | .inc_e => incReg .e
  | .dec_e => decReg .e
  | .ld_e_d8 n => ldRegImm .e n
  | .rra => rra
  | .jr_nz_e e => jrCc .nz e
  | .ld_hl_d16 nn => ldPairImm .hl nn
  | .ld_atHlInc_a => ld_atHlInc_a
  | .inc_hl => incPair .hl
  | .inc_h => incReg .h
  | .dec_h => decReg .h
  | .ld_h_d8 n => ldRegImm .h n
  | .daa => daa
  | .jr_z_e e => jrCc .z e
  | .add_hl_hl => addHlPair .hl
  | .ld_a_atHlInc => ld_a_atHlInc
  | .dec_hl => decPair .hl
  | .inc_l => incReg .l
  | .dec_l => decReg .l
  | .ld_l_d8 n => ldRegImm .l n
  | .cpl => cpl
  | .jr_nc_e e => jrCc .nc e
  | .ld_sp_d16 nn => ldPairImm .sp nn
  | .ld_atHlDec_a => ld_atHlDec_a
  | .inc_sp => incPair .sp
  | .inc_atHl => inc_atHl
  | .dec_atHl => dec_atHl
  | .ld_atHl_d8 n => ld_atHl_d8 n
  | .scf => scf
  | .jr_c_e e => jrCc .c e
  | .add_hl_sp => addHlPair .sp
  | .ld_a_atHlDec => ld_a_atHlDec
  | .dec_sp => decPair .sp
  | .inc_a => incReg .a
  | .dec_a => decReg .a
  | .ld_a_d8 n => ldRegImm .a n
  | .ccf => ccf
  | .ld_b_b => ldRegReg .b .b
  | .ld_b_c => ldRegReg .b .c
  | .ld_b_d => ldRegReg .b .d
  | .ld_b_e => ldRegReg .b .e
  | .ld_b_h => ldRegReg .b .h
  | .ld_b_l => ldRegReg .b .l
  | .ld_b_atHl => ldRegHl .b
  | .ld_b_a => ldRegReg .b .a
  | .ld_c_b => ldRegReg .c .b
  | .ld_c_c => ldRegReg .c .c
  | .ld_c_d => ldRegReg .c .d
  | .ld_c_e => ldRegReg .c .e
  | .ld_c_h => ldRegReg .c .h
  | .ld_c_l => ldRegReg .c .l
  | .ld_c_atHl => ldRegHl .c
  | .ld_c_a => ldRegReg .c .a
  | .ld_d_b => ldRegReg .d .b
  | .ld_d_c => ldRegReg .d .c
  | .ld_d_d => ldRegReg .d .d
  | .ld_d_e => ldRegReg .d .e
  | .ld_d_h => ldRegReg .d .h
  | .ld_d_l => ldRegReg .d .l
  | .ld_d_atHl => ldRegHl .d
  | .ld_d_a => ldRegReg .d .a
  | .ld_e_b => ldRegReg .e .b
  | .ld_e_c => ldRegReg .e .c
  | .ld_e_d => ldRegReg .e .d
  | .ld_e_e => ldRegReg .e .e
  | .ld_e_h => ldRegReg .e .h
  | .ld_e_l => ldRegReg .e .l
  | .ld_e_atHl => ldRegHl .e
  | .ld_e_a => ldRegReg .e .a
  | .ld_h_b => ldRegReg .h .b
  | .ld_h_c => ldRegReg .h .c
  | .ld_h_d => ldRegReg .h .d
  | .ld_h_e => ldRegReg .h .e
  | .ld_h_h => ldRegReg .h .h
  | .ld_h_l => ldRegReg .h .l
  | .ld_h_atHl => ldRegHl .h
  | .ld_h_a => ldRegReg .h .a
  | .ld_l_b => ldRegReg .l .b
  | .ld_l_c => ldRegReg .l .c
  | .ld_l_d => ldRegReg .l .d
  | .ld_l_e => ldRegReg .l .e
  | .ld_l_h => ldRegReg .l .h
  | .ld_l_l => ldRegReg .l .l
  | .ld_l_atHl => ldRegHl .l
  | .ld_l_a => ldRegReg .l .a
  | .ld_atHl_b => ldHlReg .b
  | .ld_atHl_c => ldHlReg .c
  | .ld_atHl_d => ldHlReg .d
  | .ld_atHl_e => ldHlReg .e
  | .ld_atHl_h => ldHlReg .h
  | .ld_atHl_l => ldHlReg .l
  | .halt => halt
  | .ld_atHl_a => ldHlReg .a
  | .ld_a_b => ldRegReg .a .b
  | .ld_a_c => ldRegReg .a .c
  | .ld_a_d => ldRegReg .a .d
  | .ld_a_e => ldRegReg .a .e
  | .ld_a_h => ldRegReg .a .h
  | .ld_a_l => ldRegReg .a .l
  | .ld_a_atHl => ldRegHl .a
  | .ld_a_a => ldRegReg .a .a
  | .add_a_b => aluReg .add .b
  | .add_a_c => aluReg .add .c
  | .add_a_d => aluReg .add .d
  | .add_a_e => aluReg .add .e
  | .add_a_h => aluReg .add .h
  | .add_a_l => aluReg .add .l
  | .add_a_atHl => aluHl .add
  | .add_a_a => aluReg .add .a
  | .adc_a_b => aluReg .adc .b
  | .adc_a_c => aluReg .adc .c
  | .adc_a_d => aluReg .adc .d
  | .adc_a_e => aluReg .adc .e
  | .adc_a_h => aluReg .adc .h
  | .adc_a_l => aluReg .adc .l
  | .adc_a_atHl => aluHl .adc
  | .adc_a_a => aluReg .adc .a
  | .sub_a_b => aluReg .sub .b
  | .sub_a_c => aluReg .sub .c
  | .sub_a_d => aluReg .sub .d
  | .sub_a_e => aluReg .sub .e
  | .sub_a_h => aluReg .sub .h
  | .sub_a_l => aluReg .sub .l
  | .sub_a_atHl => aluHl .sub
  | .sub_a_a => aluReg .sub .a
  | .sbc_a_b => aluReg .sbc .b
  | .sbc_a_c => aluReg .sbc .c
  | .sbc_a_d => aluReg .sbc .d
  | .sbc_a_e => aluReg .sbc .e
  | .sbc_a_h => aluReg .sbc .h
  | .sbc_a_l => aluReg .sbc .l
  | .sbc_a_atHl => aluHl .sbc
  | .sbc_a_a => aluReg .sbc .a
  | .and_a_b => aluReg .and .b
  | .and_a_c => aluReg .and .c
  | .and_a_d => aluReg .and .d
  | .and_a_e => aluReg .and .e
  | .and_a_h => aluReg .and .h
  | .and_a_l => aluReg .and .l
  | .and_a_atHl => aluHl .and
  | .and_a_a => aluReg .and .a
  | .xor_a_b => aluReg .xor .b
  | .xor_a_c => aluReg .xor .c
  | .xor_a_d => aluReg .xor .d
  | .xor_a_e => aluReg .xor .e
  | .xor_a_h => aluReg .xor .h
  | .xor_a_l => aluReg .xor .l
  | .xor_a_atHl => aluHl .xor
  | .xor_a_a => aluReg .xor .a
  | .or_a_b => aluReg .or .b
  | .or_a_c => aluReg .or .c
  | .or_a_d => aluReg .or .d
  | .or_a_e => aluReg .or .e
  | .or_a_h => aluReg .or .h
  | .or_a_l => aluReg .or .l
  | .or_a_atHl => aluHl .or
  | .or_a_a => aluReg .or .a
  | .cp_a_b => aluReg .cp .b
  | .cp_a_c => aluReg .cp .c
  | .cp_a_d => aluReg .cp .d
  | .cp_a_e => aluReg .cp .e
  | .cp_a_h => aluReg .cp .h
  | .cp_a_l => aluReg .cp .l
  | .cp_a_atHl => aluHl .cp
  | .cp_a_a => aluReg .cp .a
  | .ret_nz => retCc .nz
  | .pop_bc => popPair .bc
  | .jp_nz_a16 nn => jpCc .nz nn
  | .jp_a16 nn => jp_a16 nn
  | .call_nz_a16 nn => callCc .nz nn
  | .push_bc => pushPair .bc
  | .add_a_d8 n => aluImm .add n
  | .rst_00 => rst 0
  | .ret_z => retCc .z
  | .ret => ret
  | .jp_z_a16 nn => jpCc .z nn
  | .prefix_cb => prefix_cb
  | .call_z_a16 nn => callCc .z nn
  | .call_a16 nn => call_a16 nn
  | .adc_a_d8 n => aluImm .adc n
  | .rst_08 => rst 1
  | .ret_nc => retCc .nc
  | .pop_de => popPair .de
  | .jp_nc_a16 nn => jpCc .nc nn
  | .unassigned_d3 => unassigned .xd3
  | .call_nc_a16 nn => callCc .nc nn
  | .push_de => pushPair .de
  | .sub_a_d8 n => aluImm .sub n
  | .rst_10 => rst 2
  | .ret_c => retCc .c
  | .reti => reti
  | .jp_c_a16 nn => jpCc .c nn
  | .unassigned_db => unassigned .xdb
  | .call_c_a16 nn => callCc .c nn
  | .unassigned_dd => unassigned .xdd
  | .sbc_a_d8 n => aluImm .sbc n
  | .rst_18 => rst 3
  | .ldh_atA8_a n => ldh_atA8_a n
  | .pop_hl => popPair .hl
  | .ld_atC_a => ld_atC_a
  | .unassigned_e3 => unassigned .xe3
  | .unassigned_e4 => unassigned .xe4
  | .push_hl => pushPair .hl
  | .and_a_d8 n => aluImm .and n
  | .rst_20 => rst 4
  | .add_sp_e e => add_sp_e e
  | .jp_hl => jp_hl
  | .ld_atA16_a nn => ld_atA16_a nn
  | .unassigned_eb => unassigned .xeb
  | .unassigned_ec => unassigned .xec
  | .unassigned_ed => unassigned .xed
  | .xor_a_d8 n => aluImm .xor n
  | .rst_28 => rst 5
  | .ldh_a_atA8 n => ldh_a_atA8 n
  | .pop_af => popPair .af
  | .ld_a_atC => ld_a_atC
  | .di => di
  | .unassigned_f4 => unassigned .xf4
  | .push_af => pushPair .af
  | .or_a_d8 n => aluImm .or n
  | .rst_30 => rst 6
  | .ld_hl_sp_e e => ld_hl_sp_e e
  | .ld_sp_hl => ld_sp_hl
  | .ld_a_atA16 nn => ld_a_atA16 nn
  | .ei => ei
  | .unassigned_fc => unassigned .xfc
  | .unassigned_fd => unassigned .xfd
  | .cp_a_d8 n => aluImm .cp n
  | .rst_38 => rst 7
  | .rlc_b => rotReg .rlc .b
  | .rlc_c => rotReg .rlc .c
  | .rlc_d => rotReg .rlc .d
  | .rlc_e => rotReg .rlc .e
  | .rlc_h => rotReg .rlc .h
  | .rlc_l => rotReg .rlc .l
  | .rlc_atHl => rotHl .rlc
  | .rlc_a => rotReg .rlc .a
  | .rrc_b => rotReg .rrc .b
  | .rrc_c => rotReg .rrc .c
  | .rrc_d => rotReg .rrc .d
  | .rrc_e => rotReg .rrc .e
  | .rrc_h => rotReg .rrc .h
  | .rrc_l => rotReg .rrc .l
  | .rrc_atHl => rotHl .rrc
  | .rrc_a => rotReg .rrc .a
  | .rl_b => rotReg .rl .b
  | .rl_c => rotReg .rl .c
  | .rl_d => rotReg .rl .d
  | .rl_e => rotReg .rl .e
  | .rl_h => rotReg .rl .h
  | .rl_l => rotReg .rl .l
  | .rl_atHl => rotHl .rl
  | .rl_a => rotReg .rl .a
  | .rr_b => rotReg .rr .b
  | .rr_c => rotReg .rr .c
  | .rr_d => rotReg .rr .d
  | .rr_e => rotReg .rr .e
  | .rr_h => rotReg .rr .h
  | .rr_l => rotReg .rr .l
  | .rr_atHl => rotHl .rr
  | .rr_a => rotReg .rr .a
  | .sla_b => rotReg .sla .b
  | .sla_c => rotReg .sla .c
  | .sla_d => rotReg .sla .d
  | .sla_e => rotReg .sla .e
  | .sla_h => rotReg .sla .h
  | .sla_l => rotReg .sla .l
  | .sla_atHl => rotHl .sla
  | .sla_a => rotReg .sla .a
  | .sra_b => rotReg .sra .b
  | .sra_c => rotReg .sra .c
  | .sra_d => rotReg .sra .d
  | .sra_e => rotReg .sra .e
  | .sra_h => rotReg .sra .h
  | .sra_l => rotReg .sra .l
  | .sra_atHl => rotHl .sra
  | .sra_a => rotReg .sra .a
  | .swap_b => rotReg .swap .b
  | .swap_c => rotReg .swap .c
  | .swap_d => rotReg .swap .d
  | .swap_e => rotReg .swap .e
  | .swap_h => rotReg .swap .h
  | .swap_l => rotReg .swap .l
  | .swap_atHl => rotHl .swap
  | .swap_a => rotReg .swap .a
  | .srl_b => rotReg .srl .b
  | .srl_c => rotReg .srl .c
  | .srl_d => rotReg .srl .d
  | .srl_e => rotReg .srl .e
  | .srl_h => rotReg .srl .h
  | .srl_l => rotReg .srl .l
  | .srl_atHl => rotHl .srl
  | .srl_a => rotReg .srl .a
  | .bit_0_b => bitReg 0 .b
  | .bit_0_c => bitReg 0 .c
  | .bit_0_d => bitReg 0 .d
  | .bit_0_e => bitReg 0 .e
  | .bit_0_h => bitReg 0 .h
  | .bit_0_l => bitReg 0 .l
  | .bit_0_atHl => bitHl 0
  | .bit_0_a => bitReg 0 .a
  | .bit_1_b => bitReg 1 .b
  | .bit_1_c => bitReg 1 .c
  | .bit_1_d => bitReg 1 .d
  | .bit_1_e => bitReg 1 .e
  | .bit_1_h => bitReg 1 .h
  | .bit_1_l => bitReg 1 .l
  | .bit_1_atHl => bitHl 1
  | .bit_1_a => bitReg 1 .a
  | .bit_2_b => bitReg 2 .b
  | .bit_2_c => bitReg 2 .c
  | .bit_2_d => bitReg 2 .d
  | .bit_2_e => bitReg 2 .e
  | .bit_2_h => bitReg 2 .h
  | .bit_2_l => bitReg 2 .l
  | .bit_2_atHl => bitHl 2
  | .bit_2_a => bitReg 2 .a
  | .bit_3_b => bitReg 3 .b
  | .bit_3_c => bitReg 3 .c
  | .bit_3_d => bitReg 3 .d
  | .bit_3_e => bitReg 3 .e
  | .bit_3_h => bitReg 3 .h
  | .bit_3_l => bitReg 3 .l
  | .bit_3_atHl => bitHl 3
  | .bit_3_a => bitReg 3 .a
  | .bit_4_b => bitReg 4 .b
  | .bit_4_c => bitReg 4 .c
  | .bit_4_d => bitReg 4 .d
  | .bit_4_e => bitReg 4 .e
  | .bit_4_h => bitReg 4 .h
  | .bit_4_l => bitReg 4 .l
  | .bit_4_atHl => bitHl 4
  | .bit_4_a => bitReg 4 .a
  | .bit_5_b => bitReg 5 .b
  | .bit_5_c => bitReg 5 .c
  | .bit_5_d => bitReg 5 .d
  | .bit_5_e => bitReg 5 .e
  | .bit_5_h => bitReg 5 .h
  | .bit_5_l => bitReg 5 .l
  | .bit_5_atHl => bitHl 5
  | .bit_5_a => bitReg 5 .a
  | .bit_6_b => bitReg 6 .b
  | .bit_6_c => bitReg 6 .c
  | .bit_6_d => bitReg 6 .d
  | .bit_6_e => bitReg 6 .e
  | .bit_6_h => bitReg 6 .h
  | .bit_6_l => bitReg 6 .l
  | .bit_6_atHl => bitHl 6
  | .bit_6_a => bitReg 6 .a
  | .bit_7_b => bitReg 7 .b
  | .bit_7_c => bitReg 7 .c
  | .bit_7_d => bitReg 7 .d
  | .bit_7_e => bitReg 7 .e
  | .bit_7_h => bitReg 7 .h
  | .bit_7_l => bitReg 7 .l
  | .bit_7_atHl => bitHl 7
  | .bit_7_a => bitReg 7 .a
  | .res_0_b => resReg 0 .b
  | .res_0_c => resReg 0 .c
  | .res_0_d => resReg 0 .d
  | .res_0_e => resReg 0 .e
  | .res_0_h => resReg 0 .h
  | .res_0_l => resReg 0 .l
  | .res_0_atHl => resHl 0
  | .res_0_a => resReg 0 .a
  | .res_1_b => resReg 1 .b
  | .res_1_c => resReg 1 .c
  | .res_1_d => resReg 1 .d
  | .res_1_e => resReg 1 .e
  | .res_1_h => resReg 1 .h
  | .res_1_l => resReg 1 .l
  | .res_1_atHl => resHl 1
  | .res_1_a => resReg 1 .a
  | .res_2_b => resReg 2 .b
  | .res_2_c => resReg 2 .c
  | .res_2_d => resReg 2 .d
  | .res_2_e => resReg 2 .e
  | .res_2_h => resReg 2 .h
  | .res_2_l => resReg 2 .l
  | .res_2_atHl => resHl 2
  | .res_2_a => resReg 2 .a
  | .res_3_b => resReg 3 .b
  | .res_3_c => resReg 3 .c
  | .res_3_d => resReg 3 .d
  | .res_3_e => resReg 3 .e
  | .res_3_h => resReg 3 .h
  | .res_3_l => resReg 3 .l
  | .res_3_atHl => resHl 3
  | .res_3_a => resReg 3 .a
  | .res_4_b => resReg 4 .b
  | .res_4_c => resReg 4 .c
  | .res_4_d => resReg 4 .d
  | .res_4_e => resReg 4 .e
  | .res_4_h => resReg 4 .h
  | .res_4_l => resReg 4 .l
  | .res_4_atHl => resHl 4
  | .res_4_a => resReg 4 .a
  | .res_5_b => resReg 5 .b
  | .res_5_c => resReg 5 .c
  | .res_5_d => resReg 5 .d
  | .res_5_e => resReg 5 .e
  | .res_5_h => resReg 5 .h
  | .res_5_l => resReg 5 .l
  | .res_5_atHl => resHl 5
  | .res_5_a => resReg 5 .a
  | .res_6_b => resReg 6 .b
  | .res_6_c => resReg 6 .c
  | .res_6_d => resReg 6 .d
  | .res_6_e => resReg 6 .e
  | .res_6_h => resReg 6 .h
  | .res_6_l => resReg 6 .l
  | .res_6_atHl => resHl 6
  | .res_6_a => resReg 6 .a
  | .res_7_b => resReg 7 .b
  | .res_7_c => resReg 7 .c
  | .res_7_d => resReg 7 .d
  | .res_7_e => resReg 7 .e
  | .res_7_h => resReg 7 .h
  | .res_7_l => resReg 7 .l
  | .res_7_atHl => resHl 7
  | .res_7_a => resReg 7 .a
  | .set_0_b => setBitReg 0 .b
  | .set_0_c => setBitReg 0 .c
  | .set_0_d => setBitReg 0 .d
  | .set_0_e => setBitReg 0 .e
  | .set_0_h => setBitReg 0 .h
  | .set_0_l => setBitReg 0 .l
  | .set_0_atHl => setBitHl 0
  | .set_0_a => setBitReg 0 .a
  | .set_1_b => setBitReg 1 .b
  | .set_1_c => setBitReg 1 .c
  | .set_1_d => setBitReg 1 .d
  | .set_1_e => setBitReg 1 .e
  | .set_1_h => setBitReg 1 .h
  | .set_1_l => setBitReg 1 .l
  | .set_1_atHl => setBitHl 1
  | .set_1_a => setBitReg 1 .a
  | .set_2_b => setBitReg 2 .b
  | .set_2_c => setBitReg 2 .c
  | .set_2_d => setBitReg 2 .d
  | .set_2_e => setBitReg 2 .e
  | .set_2_h => setBitReg 2 .h
  | .set_2_l => setBitReg 2 .l
  | .set_2_atHl => setBitHl 2
  | .set_2_a => setBitReg 2 .a
  | .set_3_b => setBitReg 3 .b
  | .set_3_c => setBitReg 3 .c
  | .set_3_d => setBitReg 3 .d
  | .set_3_e => setBitReg 3 .e
  | .set_3_h => setBitReg 3 .h
  | .set_3_l => setBitReg 3 .l
  | .set_3_atHl => setBitHl 3
  | .set_3_a => setBitReg 3 .a
  | .set_4_b => setBitReg 4 .b
  | .set_4_c => setBitReg 4 .c
  | .set_4_d => setBitReg 4 .d
  | .set_4_e => setBitReg 4 .e
  | .set_4_h => setBitReg 4 .h
  | .set_4_l => setBitReg 4 .l
  | .set_4_atHl => setBitHl 4
  | .set_4_a => setBitReg 4 .a
  | .set_5_b => setBitReg 5 .b
  | .set_5_c => setBitReg 5 .c
  | .set_5_d => setBitReg 5 .d
  | .set_5_e => setBitReg 5 .e
  | .set_5_h => setBitReg 5 .h
  | .set_5_l => setBitReg 5 .l
  | .set_5_atHl => setBitHl 5
  | .set_5_a => setBitReg 5 .a
  | .set_6_b => setBitReg 6 .b
  | .set_6_c => setBitReg 6 .c
  | .set_6_d => setBitReg 6 .d
  | .set_6_e => setBitReg 6 .e
  | .set_6_h => setBitReg 6 .h
  | .set_6_l => setBitReg 6 .l
  | .set_6_atHl => setBitHl 6
  | .set_6_a => setBitReg 6 .a
  | .set_7_b => setBitReg 7 .b
  | .set_7_c => setBitReg 7 .c
  | .set_7_d => setBitReg 7 .d
  | .set_7_e => setBitReg 7 .e
  | .set_7_h => setBitReg 7 .h
  | .set_7_l => setBitReg 7 .l
  | .set_7_atHl => setBitHl 7
  | .set_7_a => setBitReg 7 .a

end Sys2Proof

namespace Sys2Proof.Machine

/-! The meaning of each form. -/

@[simp] theorem exec_ldRegReg (r : Reg8) (r' : Reg8) (s : State) : exec (Instr.ldRegReg r r') s = ldRegReg r r' s := by
  cases r <;> cases r' <;> rfl
@[simp] theorem exec_ldRegImm (r : Reg8) (n : Byte) (s : State) : exec (Instr.ldRegImm r n) s = ldRegImm r n s := by
  cases r <;> rfl
@[simp] theorem exec_ldRegHl (r : Reg8) (s : State) : exec (Instr.ldRegHl r) s = ldRegHl r s := by
  cases r <;> rfl
@[simp] theorem exec_ldHlReg (r : Reg8) (s : State) : exec (Instr.ldHlReg r) s = ldHlReg r s := by
  cases r <;> rfl
@[simp] theorem exec_ldPairImm (p : Pair) (nn : Word) (s : State) : exec (Instr.ldPairImm p nn) s = ldPairImm p nn s := by
  cases p <;> rfl
@[simp] theorem exec_pushPair (p : StackPair) (s : State) : exec (Instr.pushPair p) s = pushPair p s := by
  cases p <;> rfl
@[simp] theorem exec_popPair (p : StackPair) (s : State) : exec (Instr.popPair p) s = popPair p s := by
  cases p <;> rfl
@[simp] theorem exec_aluReg (op : AluOp) (r : Reg8) (s : State) : exec (Instr.aluReg op r) s = aluReg op r s := by
  cases op <;> cases r <;> rfl
@[simp] theorem exec_aluHl (op : AluOp) (s : State) : exec (Instr.aluHl op) s = aluHl op s := by
  cases op <;> rfl
@[simp] theorem exec_aluImm (op : AluOp) (n : Byte) (s : State) : exec (Instr.aluImm op n) s = aluImm op n s := by
  cases op <;> rfl
@[simp] theorem exec_incReg (r : Reg8) (s : State) : exec (Instr.incReg r) s = incReg r s := by
  cases r <;> rfl
@[simp] theorem exec_decReg (r : Reg8) (s : State) : exec (Instr.decReg r) s = decReg r s := by
  cases r <;> rfl
@[simp] theorem exec_addHlPair (p : Pair) (s : State) : exec (Instr.addHlPair p) s = addHlPair p s := by
  cases p <;> rfl
@[simp] theorem exec_incPair (p : Pair) (s : State) : exec (Instr.incPair p) s = incPair p s := by
  cases p <;> rfl
@[simp] theorem exec_decPair (p : Pair) (s : State) : exec (Instr.decPair p) s = decPair p s := by
  cases p <;> rfl
@[simp] theorem exec_rotReg (op : RotOp) (r : Reg8) (s : State) : exec (Instr.rotReg op r) s = rotReg op r s := by
  cases op <;> cases r <;> rfl
@[simp] theorem exec_rotHl (op : RotOp) (s : State) : exec (Instr.rotHl op) s = rotHl op s := by
  cases op <;> rfl
@[simp] theorem exec_bitReg (b : Fin 8) (r : Reg8) (s : State) : exec (Instr.bitReg b r) s = bitReg b r s := by
  fin_cases b <;> cases r <;> rfl
@[simp] theorem exec_bitHl (b : Fin 8) (s : State) : exec (Instr.bitHl b) s = bitHl b s := by
  fin_cases b <;> rfl
@[simp] theorem exec_resReg (b : Fin 8) (r : Reg8) (s : State) : exec (Instr.resReg b r) s = resReg b r s := by
  fin_cases b <;> cases r <;> rfl
@[simp] theorem exec_resHl (b : Fin 8) (s : State) : exec (Instr.resHl b) s = resHl b s := by
  fin_cases b <;> rfl
@[simp] theorem exec_setBitReg (b : Fin 8) (r : Reg8) (s : State) : exec (Instr.setBitReg b r) s = setBitReg b r s := by
  fin_cases b <;> cases r <;> rfl
@[simp] theorem exec_setBitHl (b : Fin 8) (s : State) : exec (Instr.setBitHl b) s = setBitHl b s := by
  fin_cases b <;> rfl
@[simp] theorem exec_jpCc (cc : Cond) (nn : Word) (s : State) : exec (Instr.jpCc cc nn) s = jumpIf cc nn s := by
  cases cc <;> rfl
@[simp] theorem exec_jrCc (cc : Cond) (e : Byte) (s : State) : exec (Instr.jrCc cc e) s = jumpRelIf cc e s := by
  cases cc <;> rfl
@[simp] theorem exec_callCc (cc : Cond) (nn : Word) (s : State) : exec (Instr.callCc cc nn) s = callIf cc nn s := by
  cases cc <;> rfl
@[simp] theorem exec_retCc (cc : Cond) (s : State) : exec (Instr.retCc cc) s = returnIf cc s := by
  cases cc <;> rfl
@[simp] theorem exec_rst (b : Fin 8) (s : State) : exec (Instr.rst b) s = restart b s := by
  fin_cases b <;> rfl
@[simp] theorem exec_unassigned (u : Unassigned) (s : State) : exec (Instr.unassigned u) s = unassigned u.byte s := by
  cases u <;> rfl
@[simp] theorem exec_of_nop (s : State) : exec .nop s = nop s := rfl
@[simp] theorem exec_of_ld_atBc_a (s : State) : exec .ld_atBc_a s = ldMemA s.cpu.bc 1 2 s := rfl
@[simp] theorem exec_of_rlca (s : State) : exec .rlca s = rotA .rlc s := rfl
@[simp] theorem exec_of_ld_atA16_sp (nn : Word) (s : State) : exec (.ld_atA16_sp nn) s = ldMemSp nn s := rfl
@[simp] theorem exec_of_ld_a_atBc (s : State) : exec .ld_a_atBc s = ldAMem s.cpu.bc 1 2 s := rfl
@[simp] theorem exec_of_rrca (s : State) : exec .rrca s = rotA .rrc s := rfl
@[simp] theorem exec_of_stop (n : Byte) (s : State) : exec (.stop n) s = stop s := rfl
@[simp] theorem exec_of_ld_atDe_a (s : State) : exec .ld_atDe_a s = ldMemA s.cpu.de 1 2 s := rfl
@[simp] theorem exec_of_rla (s : State) : exec .rla s = rotA .rl s := rfl
@[simp] theorem exec_of_jr_e (e : Byte) (s : State) : exec (.jr_e e) s = jumpRel e s := rfl
@[simp] theorem exec_of_ld_a_atDe (s : State) : exec .ld_a_atDe s = ldAMem s.cpu.de 1 2 s := rfl
@[simp] theorem exec_of_rra (s : State) : exec .rra s = rotA .rr s := rfl
@[simp] theorem exec_of_ld_atHlInc_a (s : State) : exec .ld_atHlInc_a s = ldHlAStep 1 s := rfl
@[simp] theorem exec_of_daa (s : State) : exec .daa s = daa s := rfl
@[simp] theorem exec_of_ld_a_atHlInc (s : State) : exec .ld_a_atHlInc s = ldAHlStep 1 s := rfl
@[simp] theorem exec_of_cpl (s : State) : exec .cpl s = cpl s := rfl
@[simp] theorem exec_of_ld_atHlDec_a (s : State) : exec .ld_atHlDec_a s = ldHlAStep (-1) s := rfl
@[simp] theorem exec_of_inc_atHl (s : State) : exec .inc_atHl s = incHl s := rfl
@[simp] theorem exec_of_dec_atHl (s : State) : exec .dec_atHl s = decHl s := rfl
@[simp] theorem exec_of_ld_atHl_d8 (n : Byte) (s : State) : exec (.ld_atHl_d8 n) s = ldHlImm n s := rfl
@[simp] theorem exec_of_scf (s : State) : exec .scf s = scf s := rfl
@[simp] theorem exec_of_ld_a_atHlDec (s : State) : exec .ld_a_atHlDec s = ldAHlStep (-1) s := rfl
@[simp] theorem exec_of_ccf (s : State) : exec .ccf s = ccf s := rfl
@[simp] theorem exec_of_halt (s : State) : exec .halt s = halt s := rfl
@[simp] theorem exec_of_jp_a16 (nn : Word) (s : State) : exec (.jp_a16 nn) s = jump nn s := rfl
@[simp] theorem exec_of_ret (s : State) : exec .ret s = ret s := rfl
@[simp] theorem exec_of_prefix_cb (s : State) : exec .prefix_cb s = prefixCb s := rfl
@[simp] theorem exec_of_call_a16 (nn : Word) (s : State) : exec (.call_a16 nn) s = call nn s := rfl
@[simp] theorem exec_of_reti (s : State) : exec .reti s = reti s := rfl
@[simp] theorem exec_of_ldh_atA8_a (n : Byte) (s : State) : exec (.ldh_atA8_a n) s = ldMemA (highPage n) 2 3 s := rfl
@[simp] theorem exec_of_ld_atC_a (s : State) : exec .ld_atC_a s = ldMemA (highPage s.cpu.c) 1 2 s := rfl
@[simp] theorem exec_of_add_sp_e (e : Byte) (s : State) : exec (.add_sp_e e) s = addSp e s := rfl
@[simp] theorem exec_of_jp_hl (s : State) : exec .jp_hl s = jumpHl s := rfl
@[simp] theorem exec_of_ld_atA16_a (nn : Word) (s : State) : exec (.ld_atA16_a nn) s = ldMemA nn 3 4 s := rfl
@[simp] theorem exec_of_ldh_a_atA8 (n : Byte) (s : State) : exec (.ldh_a_atA8 n) s = ldAMem (highPage n) 2 3 s := rfl
@[simp] theorem exec_of_ld_a_atC (s : State) : exec .ld_a_atC s = ldAMem (highPage s.cpu.c) 1 2 s := rfl
@[simp] theorem exec_of_di (s : State) : exec .di s = di s := rfl
@[simp] theorem exec_of_ld_hl_sp_e (e : Byte) (s : State) : exec (.ld_hl_sp_e e) s = ldHlSp e s := rfl
@[simp] theorem exec_of_ld_sp_hl (s : State) : exec .ld_sp_hl s = ldSpHl s := rfl
@[simp] theorem exec_of_ld_a_atA16 (nn : Word) (s : State) : exec (.ld_a_atA16 nn) s = ldAMem nn 3 4 s := rfl
@[simp] theorem exec_of_ei (s : State) : exec .ei s = ei s := rfl

end Sys2Proof.Machine
end

