-- ==== Sys2Proof/Laws/State.lean ====
section
/-! SUPPORT. What each update of the state writes and what it leaves: one lemma for each field and update. -/

namespace Sys2Proof.Machine

/-! `Cpu.setFlags`. -/
@[simp] theorem Cpu.setFlags_a (cpu : Cpu) (z n h fc : Bool) : (cpu.setFlags z n h fc).a = cpu.a := rfl
@[simp] theorem Cpu.setFlags_f (cpu : Cpu) (z n h fc : Bool) : (cpu.setFlags z n h fc).f = packFlags z n h fc := rfl
@[simp] theorem Cpu.setFlags_b (cpu : Cpu) (z n h fc : Bool) : (cpu.setFlags z n h fc).b = cpu.b := rfl
@[simp] theorem Cpu.setFlags_c (cpu : Cpu) (z n h fc : Bool) : (cpu.setFlags z n h fc).c = cpu.c := rfl
@[simp] theorem Cpu.setFlags_d (cpu : Cpu) (z n h fc : Bool) : (cpu.setFlags z n h fc).d = cpu.d := rfl
@[simp] theorem Cpu.setFlags_e (cpu : Cpu) (z n h fc : Bool) : (cpu.setFlags z n h fc).e = cpu.e := rfl
@[simp] theorem Cpu.setFlags_h (cpu : Cpu) (z n h fc : Bool) : (cpu.setFlags z n h fc).h = cpu.h := rfl
@[simp] theorem Cpu.setFlags_l (cpu : Cpu) (z n h fc : Bool) : (cpu.setFlags z n h fc).l = cpu.l := rfl
@[simp] theorem Cpu.setFlags_sp (cpu : Cpu) (z n h fc : Bool) : (cpu.setFlags z n h fc).sp = cpu.sp := rfl
@[simp] theorem Cpu.setFlags_pc (cpu : Cpu) (z n h fc : Bool) : (cpu.setFlags z n h fc).pc = cpu.pc := rfl
@[simp] theorem Cpu.setFlags_halted (cpu : Cpu) (z n h fc : Bool) : (cpu.setFlags z n h fc).halted = cpu.halted := rfl
@[simp] theorem Cpu.setFlags_ime (cpu : Cpu) (z n h fc : Bool) : (cpu.setFlags z n h fc).ime = cpu.ime := rfl
@[simp] theorem Cpu.setFlags_cyclesRemaining (cpu : Cpu) (z n h fc : Bool) : (cpu.setFlags z n h fc).cyclesRemaining = cpu.cyclesRemaining := rfl
@[simp] theorem Cpu.setFlags_cbPrefixPending (cpu : Cpu) (z n h fc : Bool) : (cpu.setFlags z n h fc).cbPrefixPending = cpu.cbPrefixPending := rfl

/-! `Cpu.setBc`. -/
@[simp] theorem Cpu.setBc_a (cpu : Cpu) (v : Word) : (cpu.setBc v).a = cpu.a := rfl
@[simp] theorem Cpu.setBc_f (cpu : Cpu) (v : Word) : (cpu.setBc v).f = cpu.f := rfl
@[simp] theorem Cpu.setBc_b (cpu : Cpu) (v : Word) : (cpu.setBc v).b = hiByte v := rfl
@[simp] theorem Cpu.setBc_c (cpu : Cpu) (v : Word) : (cpu.setBc v).c = loByte v := rfl
@[simp] theorem Cpu.setBc_d (cpu : Cpu) (v : Word) : (cpu.setBc v).d = cpu.d := rfl
@[simp] theorem Cpu.setBc_e (cpu : Cpu) (v : Word) : (cpu.setBc v).e = cpu.e := rfl
@[simp] theorem Cpu.setBc_h (cpu : Cpu) (v : Word) : (cpu.setBc v).h = cpu.h := rfl
@[simp] theorem Cpu.setBc_l (cpu : Cpu) (v : Word) : (cpu.setBc v).l = cpu.l := rfl
@[simp] theorem Cpu.setBc_sp (cpu : Cpu) (v : Word) : (cpu.setBc v).sp = cpu.sp := rfl
@[simp] theorem Cpu.setBc_pc (cpu : Cpu) (v : Word) : (cpu.setBc v).pc = cpu.pc := rfl
@[simp] theorem Cpu.setBc_halted (cpu : Cpu) (v : Word) : (cpu.setBc v).halted = cpu.halted := rfl
@[simp] theorem Cpu.setBc_ime (cpu : Cpu) (v : Word) : (cpu.setBc v).ime = cpu.ime := rfl
@[simp] theorem Cpu.setBc_cyclesRemaining (cpu : Cpu) (v : Word) : (cpu.setBc v).cyclesRemaining = cpu.cyclesRemaining := rfl
@[simp] theorem Cpu.setBc_cbPrefixPending (cpu : Cpu) (v : Word) : (cpu.setBc v).cbPrefixPending = cpu.cbPrefixPending := rfl

/-! `Cpu.setDe`. -/
@[simp] theorem Cpu.setDe_a (cpu : Cpu) (v : Word) : (cpu.setDe v).a = cpu.a := rfl
@[simp] theorem Cpu.setDe_f (cpu : Cpu) (v : Word) : (cpu.setDe v).f = cpu.f := rfl
@[simp] theorem Cpu.setDe_b (cpu : Cpu) (v : Word) : (cpu.setDe v).b = cpu.b := rfl
@[simp] theorem Cpu.setDe_c (cpu : Cpu) (v : Word) : (cpu.setDe v).c = cpu.c := rfl
@[simp] theorem Cpu.setDe_d (cpu : Cpu) (v : Word) : (cpu.setDe v).d = hiByte v := rfl
@[simp] theorem Cpu.setDe_e (cpu : Cpu) (v : Word) : (cpu.setDe v).e = loByte v := rfl
@[simp] theorem Cpu.setDe_h (cpu : Cpu) (v : Word) : (cpu.setDe v).h = cpu.h := rfl
@[simp] theorem Cpu.setDe_l (cpu : Cpu) (v : Word) : (cpu.setDe v).l = cpu.l := rfl
@[simp] theorem Cpu.setDe_sp (cpu : Cpu) (v : Word) : (cpu.setDe v).sp = cpu.sp := rfl
@[simp] theorem Cpu.setDe_pc (cpu : Cpu) (v : Word) : (cpu.setDe v).pc = cpu.pc := rfl
@[simp] theorem Cpu.setDe_halted (cpu : Cpu) (v : Word) : (cpu.setDe v).halted = cpu.halted := rfl
@[simp] theorem Cpu.setDe_ime (cpu : Cpu) (v : Word) : (cpu.setDe v).ime = cpu.ime := rfl
@[simp] theorem Cpu.setDe_cyclesRemaining (cpu : Cpu) (v : Word) : (cpu.setDe v).cyclesRemaining = cpu.cyclesRemaining := rfl
@[simp] theorem Cpu.setDe_cbPrefixPending (cpu : Cpu) (v : Word) : (cpu.setDe v).cbPrefixPending = cpu.cbPrefixPending := rfl

/-! `Cpu.setHl`. -/
@[simp] theorem Cpu.setHl_a (cpu : Cpu) (v : Word) : (cpu.setHl v).a = cpu.a := rfl
@[simp] theorem Cpu.setHl_f (cpu : Cpu) (v : Word) : (cpu.setHl v).f = cpu.f := rfl
@[simp] theorem Cpu.setHl_b (cpu : Cpu) (v : Word) : (cpu.setHl v).b = cpu.b := rfl
@[simp] theorem Cpu.setHl_c (cpu : Cpu) (v : Word) : (cpu.setHl v).c = cpu.c := rfl
@[simp] theorem Cpu.setHl_d (cpu : Cpu) (v : Word) : (cpu.setHl v).d = cpu.d := rfl
@[simp] theorem Cpu.setHl_e (cpu : Cpu) (v : Word) : (cpu.setHl v).e = cpu.e := rfl
@[simp] theorem Cpu.setHl_h (cpu : Cpu) (v : Word) : (cpu.setHl v).h = hiByte v := rfl
@[simp] theorem Cpu.setHl_l (cpu : Cpu) (v : Word) : (cpu.setHl v).l = loByte v := rfl
@[simp] theorem Cpu.setHl_sp (cpu : Cpu) (v : Word) : (cpu.setHl v).sp = cpu.sp := rfl
@[simp] theorem Cpu.setHl_pc (cpu : Cpu) (v : Word) : (cpu.setHl v).pc = cpu.pc := rfl
@[simp] theorem Cpu.setHl_halted (cpu : Cpu) (v : Word) : (cpu.setHl v).halted = cpu.halted := rfl
@[simp] theorem Cpu.setHl_ime (cpu : Cpu) (v : Word) : (cpu.setHl v).ime = cpu.ime := rfl
@[simp] theorem Cpu.setHl_cyclesRemaining (cpu : Cpu) (v : Word) : (cpu.setHl v).cyclesRemaining = cpu.cyclesRemaining := rfl
@[simp] theorem Cpu.setHl_cbPrefixPending (cpu : Cpu) (v : Word) : (cpu.setHl v).cbPrefixPending = cpu.cbPrefixPending := rfl

/-! `Cpu.setAf`. -/
@[simp] theorem Cpu.setAf_a (cpu : Cpu) (v : Word) : (cpu.setAf v).a = hiByte v := rfl
@[simp] theorem Cpu.setAf_f (cpu : Cpu) (v : Word) : (cpu.setAf v).f = loByte v &&& 0xF0 := rfl
@[simp] theorem Cpu.setAf_b (cpu : Cpu) (v : Word) : (cpu.setAf v).b = cpu.b := rfl
@[simp] theorem Cpu.setAf_c (cpu : Cpu) (v : Word) : (cpu.setAf v).c = cpu.c := rfl
@[simp] theorem Cpu.setAf_d (cpu : Cpu) (v : Word) : (cpu.setAf v).d = cpu.d := rfl
@[simp] theorem Cpu.setAf_e (cpu : Cpu) (v : Word) : (cpu.setAf v).e = cpu.e := rfl
@[simp] theorem Cpu.setAf_h (cpu : Cpu) (v : Word) : (cpu.setAf v).h = cpu.h := rfl
@[simp] theorem Cpu.setAf_l (cpu : Cpu) (v : Word) : (cpu.setAf v).l = cpu.l := rfl
@[simp] theorem Cpu.setAf_sp (cpu : Cpu) (v : Word) : (cpu.setAf v).sp = cpu.sp := rfl
@[simp] theorem Cpu.setAf_pc (cpu : Cpu) (v : Word) : (cpu.setAf v).pc = cpu.pc := rfl
@[simp] theorem Cpu.setAf_halted (cpu : Cpu) (v : Word) : (cpu.setAf v).halted = cpu.halted := rfl
@[simp] theorem Cpu.setAf_ime (cpu : Cpu) (v : Word) : (cpu.setAf v).ime = cpu.ime := rfl
@[simp] theorem Cpu.setAf_cyclesRemaining (cpu : Cpu) (v : Word) : (cpu.setAf v).cyclesRemaining = cpu.cyclesRemaining := rfl
@[simp] theorem Cpu.setAf_cbPrefixPending (cpu : Cpu) (v : Word) : (cpu.setAf v).cbPrefixPending = cpu.cbPrefixPending := rfl

/-! `State.setCpu`. -/
@[simp] theorem State.setCpu_cpu (s : State) (c : Cpu) : (s.setCpu c).cpu = c := rfl
@[simp] theorem State.setCpu_irq (s : State) (c : Cpu) : (s.setCpu c).irq = s.irq := rfl
@[simp] theorem State.setCpu_timer (s : State) (c : Cpu) : (s.setCpu c).timer = s.timer := rfl
@[simp] theorem State.setCpu_ppu (s : State) (c : Cpu) : (s.setCpu c).ppu = s.ppu := rfl
@[simp] theorem State.setCpu_mem (s : State) (c : Cpu) : (s.setCpu c).mem = s.mem := rfl
@[simp] theorem State.setCpu_bootRom (s : State) (c : Cpu) : (s.setCpu c).bootRom = s.bootRom := rfl
@[simp] theorem State.setCpu_bootOverlay (s : State) (c : Cpu) : (s.setCpu c).bootOverlay = s.bootOverlay := rfl
@[simp] theorem State.setCpu_frame (s : State) (c : Cpu) : (s.setCpu c).frame = s.frame := rfl
@[simp] theorem State.setCpu_params (s : State) (c : Cpu) : (s.setCpu c).params = s.params := rfl
@[simp] theorem State.setCpu_serialInput (s : State) (c : Cpu) : (s.setCpu c).serialInput = s.serialInput := rfl
@[simp] theorem State.setCpu_hostInput (s : State) (c : Cpu) : (s.setCpu c).hostInput = s.hostInput := rfl
@[simp] theorem State.setCpu_drawCount (s : State) (c : Cpu) : (s.setCpu c).drawCount = s.drawCount := rfl

/-! `State.setA`. -/
@[simp] theorem State.setA_irq (s : State) (v : Byte) : (s.setA v).irq = s.irq := rfl
@[simp] theorem State.setA_timer (s : State) (v : Byte) : (s.setA v).timer = s.timer := rfl
@[simp] theorem State.setA_ppu (s : State) (v : Byte) : (s.setA v).ppu = s.ppu := rfl
@[simp] theorem State.setA_mem (s : State) (v : Byte) : (s.setA v).mem = s.mem := rfl
@[simp] theorem State.setA_bootRom (s : State) (v : Byte) : (s.setA v).bootRom = s.bootRom := rfl
@[simp] theorem State.setA_bootOverlay (s : State) (v : Byte) : (s.setA v).bootOverlay = s.bootOverlay := rfl
@[simp] theorem State.setA_frame (s : State) (v : Byte) : (s.setA v).frame = s.frame := rfl
@[simp] theorem State.setA_params (s : State) (v : Byte) : (s.setA v).params = s.params := rfl
@[simp] theorem State.setA_serialInput (s : State) (v : Byte) : (s.setA v).serialInput = s.serialInput := rfl
@[simp] theorem State.setA_hostInput (s : State) (v : Byte) : (s.setA v).hostInput = s.hostInput := rfl
@[simp] theorem State.setA_drawCount (s : State) (v : Byte) : (s.setA v).drawCount = s.drawCount := rfl
@[simp] theorem State.setA_cpu_a (s : State) (v : Byte) : (s.setA v).cpu.a = v := rfl
@[simp] theorem State.setA_cpu_f (s : State) (v : Byte) : (s.setA v).cpu.f = s.cpu.f := rfl
@[simp] theorem State.setA_cpu_b (s : State) (v : Byte) : (s.setA v).cpu.b = s.cpu.b := rfl
@[simp] theorem State.setA_cpu_c (s : State) (v : Byte) : (s.setA v).cpu.c = s.cpu.c := rfl
@[simp] theorem State.setA_cpu_d (s : State) (v : Byte) : (s.setA v).cpu.d = s.cpu.d := rfl
@[simp] theorem State.setA_cpu_e (s : State) (v : Byte) : (s.setA v).cpu.e = s.cpu.e := rfl
@[simp] theorem State.setA_cpu_h (s : State) (v : Byte) : (s.setA v).cpu.h = s.cpu.h := rfl
@[simp] theorem State.setA_cpu_l (s : State) (v : Byte) : (s.setA v).cpu.l = s.cpu.l := rfl
@[simp] theorem State.setA_cpu_sp (s : State) (v : Byte) : (s.setA v).cpu.sp = s.cpu.sp := rfl
@[simp] theorem State.setA_cpu_pc (s : State) (v : Byte) : (s.setA v).cpu.pc = s.cpu.pc := rfl
@[simp] theorem State.setA_cpu_halted (s : State) (v : Byte) : (s.setA v).cpu.halted = s.cpu.halted := rfl
@[simp] theorem State.setA_cpu_ime (s : State) (v : Byte) : (s.setA v).cpu.ime = s.cpu.ime := rfl
@[simp] theorem State.setA_cpu_cyclesRemaining (s : State) (v : Byte) : (s.setA v).cpu.cyclesRemaining = s.cpu.cyclesRemaining := rfl
@[simp] theorem State.setA_cpu_cbPrefixPending (s : State) (v : Byte) : (s.setA v).cpu.cbPrefixPending = s.cpu.cbPrefixPending := rfl

/-! `State.setHl`. -/
@[simp] theorem State.setHl_irq (s : State) (v : Word) : (s.setHl v).irq = s.irq := rfl
@[simp] theorem State.setHl_timer (s : State) (v : Word) : (s.setHl v).timer = s.timer := rfl
@[simp] theorem State.setHl_ppu (s : State) (v : Word) : (s.setHl v).ppu = s.ppu := rfl
@[simp] theorem State.setHl_mem (s : State) (v : Word) : (s.setHl v).mem = s.mem := rfl
@[simp] theorem State.setHl_bootRom (s : State) (v : Word) : (s.setHl v).bootRom = s.bootRom := rfl
@[simp] theorem State.setHl_bootOverlay (s : State) (v : Word) : (s.setHl v).bootOverlay = s.bootOverlay := rfl
@[simp] theorem State.setHl_frame (s : State) (v : Word) : (s.setHl v).frame = s.frame := rfl
@[simp] theorem State.setHl_params (s : State) (v : Word) : (s.setHl v).params = s.params := rfl
@[simp] theorem State.setHl_serialInput (s : State) (v : Word) : (s.setHl v).serialInput = s.serialInput := rfl
@[simp] theorem State.setHl_hostInput (s : State) (v : Word) : (s.setHl v).hostInput = s.hostInput := rfl
@[simp] theorem State.setHl_drawCount (s : State) (v : Word) : (s.setHl v).drawCount = s.drawCount := rfl
@[simp] theorem State.setHl_cpu_a (s : State) (v : Word) : (s.setHl v).cpu.a = s.cpu.a := rfl
@[simp] theorem State.setHl_cpu_f (s : State) (v : Word) : (s.setHl v).cpu.f = s.cpu.f := rfl
@[simp] theorem State.setHl_cpu_b (s : State) (v : Word) : (s.setHl v).cpu.b = s.cpu.b := rfl
@[simp] theorem State.setHl_cpu_c (s : State) (v : Word) : (s.setHl v).cpu.c = s.cpu.c := rfl
@[simp] theorem State.setHl_cpu_d (s : State) (v : Word) : (s.setHl v).cpu.d = s.cpu.d := rfl
@[simp] theorem State.setHl_cpu_e (s : State) (v : Word) : (s.setHl v).cpu.e = s.cpu.e := rfl
@[simp] theorem State.setHl_cpu_h (s : State) (v : Word) : (s.setHl v).cpu.h = hiByte v := rfl
@[simp] theorem State.setHl_cpu_l (s : State) (v : Word) : (s.setHl v).cpu.l = loByte v := rfl
@[simp] theorem State.setHl_cpu_sp (s : State) (v : Word) : (s.setHl v).cpu.sp = s.cpu.sp := rfl
@[simp] theorem State.setHl_cpu_pc (s : State) (v : Word) : (s.setHl v).cpu.pc = s.cpu.pc := rfl
@[simp] theorem State.setHl_cpu_halted (s : State) (v : Word) : (s.setHl v).cpu.halted = s.cpu.halted := rfl
@[simp] theorem State.setHl_cpu_ime (s : State) (v : Word) : (s.setHl v).cpu.ime = s.cpu.ime := rfl
@[simp] theorem State.setHl_cpu_cyclesRemaining (s : State) (v : Word) : (s.setHl v).cpu.cyclesRemaining = s.cpu.cyclesRemaining := rfl
@[simp] theorem State.setHl_cpu_cbPrefixPending (s : State) (v : Word) : (s.setHl v).cpu.cbPrefixPending = s.cpu.cbPrefixPending := rfl

/-! `State.setSp`. -/
@[simp] theorem State.setSp_irq (s : State) (v : Word) : (s.setSp v).irq = s.irq := rfl
@[simp] theorem State.setSp_timer (s : State) (v : Word) : (s.setSp v).timer = s.timer := rfl
@[simp] theorem State.setSp_ppu (s : State) (v : Word) : (s.setSp v).ppu = s.ppu := rfl
@[simp] theorem State.setSp_mem (s : State) (v : Word) : (s.setSp v).mem = s.mem := rfl
@[simp] theorem State.setSp_bootRom (s : State) (v : Word) : (s.setSp v).bootRom = s.bootRom := rfl
@[simp] theorem State.setSp_bootOverlay (s : State) (v : Word) : (s.setSp v).bootOverlay = s.bootOverlay := rfl
@[simp] theorem State.setSp_frame (s : State) (v : Word) : (s.setSp v).frame = s.frame := rfl
@[simp] theorem State.setSp_params (s : State) (v : Word) : (s.setSp v).params = s.params := rfl
@[simp] theorem State.setSp_serialInput (s : State) (v : Word) : (s.setSp v).serialInput = s.serialInput := rfl
@[simp] theorem State.setSp_hostInput (s : State) (v : Word) : (s.setSp v).hostInput = s.hostInput := rfl
@[simp] theorem State.setSp_drawCount (s : State) (v : Word) : (s.setSp v).drawCount = s.drawCount := rfl
@[simp] theorem State.setSp_cpu_a (s : State) (v : Word) : (s.setSp v).cpu.a = s.cpu.a := rfl
@[simp] theorem State.setSp_cpu_f (s : State) (v : Word) : (s.setSp v).cpu.f = s.cpu.f := rfl
@[simp] theorem State.setSp_cpu_b (s : State) (v : Word) : (s.setSp v).cpu.b = s.cpu.b := rfl
@[simp] theorem State.setSp_cpu_c (s : State) (v : Word) : (s.setSp v).cpu.c = s.cpu.c := rfl
@[simp] theorem State.setSp_cpu_d (s : State) (v : Word) : (s.setSp v).cpu.d = s.cpu.d := rfl
@[simp] theorem State.setSp_cpu_e (s : State) (v : Word) : (s.setSp v).cpu.e = s.cpu.e := rfl
@[simp] theorem State.setSp_cpu_h (s : State) (v : Word) : (s.setSp v).cpu.h = s.cpu.h := rfl
@[simp] theorem State.setSp_cpu_l (s : State) (v : Word) : (s.setSp v).cpu.l = s.cpu.l := rfl
@[simp] theorem State.setSp_cpu_sp (s : State) (v : Word) : (s.setSp v).cpu.sp = v := rfl
@[simp] theorem State.setSp_cpu_pc (s : State) (v : Word) : (s.setSp v).cpu.pc = s.cpu.pc := rfl
@[simp] theorem State.setSp_cpu_halted (s : State) (v : Word) : (s.setSp v).cpu.halted = s.cpu.halted := rfl
@[simp] theorem State.setSp_cpu_ime (s : State) (v : Word) : (s.setSp v).cpu.ime = s.cpu.ime := rfl
@[simp] theorem State.setSp_cpu_cyclesRemaining (s : State) (v : Word) : (s.setSp v).cpu.cyclesRemaining = s.cpu.cyclesRemaining := rfl
@[simp] theorem State.setSp_cpu_cbPrefixPending (s : State) (v : Word) : (s.setSp v).cpu.cbPrefixPending = s.cpu.cbPrefixPending := rfl

/-! `State.setIme`. -/
@[simp] theorem State.setIme_irq (s : State) (v : Bool) : (s.setIme v).irq = s.irq := rfl
@[simp] theorem State.setIme_timer (s : State) (v : Bool) : (s.setIme v).timer = s.timer := rfl
@[simp] theorem State.setIme_ppu (s : State) (v : Bool) : (s.setIme v).ppu = s.ppu := rfl
@[simp] theorem State.setIme_mem (s : State) (v : Bool) : (s.setIme v).mem = s.mem := rfl
@[simp] theorem State.setIme_bootRom (s : State) (v : Bool) : (s.setIme v).bootRom = s.bootRom := rfl
@[simp] theorem State.setIme_bootOverlay (s : State) (v : Bool) : (s.setIme v).bootOverlay = s.bootOverlay := rfl
@[simp] theorem State.setIme_frame (s : State) (v : Bool) : (s.setIme v).frame = s.frame := rfl
@[simp] theorem State.setIme_params (s : State) (v : Bool) : (s.setIme v).params = s.params := rfl
@[simp] theorem State.setIme_serialInput (s : State) (v : Bool) : (s.setIme v).serialInput = s.serialInput := rfl
@[simp] theorem State.setIme_hostInput (s : State) (v : Bool) : (s.setIme v).hostInput = s.hostInput := rfl
@[simp] theorem State.setIme_drawCount (s : State) (v : Bool) : (s.setIme v).drawCount = s.drawCount := rfl
@[simp] theorem State.setIme_cpu_a (s : State) (v : Bool) : (s.setIme v).cpu.a = s.cpu.a := rfl
@[simp] theorem State.setIme_cpu_f (s : State) (v : Bool) : (s.setIme v).cpu.f = s.cpu.f := rfl
@[simp] theorem State.setIme_cpu_b (s : State) (v : Bool) : (s.setIme v).cpu.b = s.cpu.b := rfl
@[simp] theorem State.setIme_cpu_c (s : State) (v : Bool) : (s.setIme v).cpu.c = s.cpu.c := rfl
@[simp] theorem State.setIme_cpu_d (s : State) (v : Bool) : (s.setIme v).cpu.d = s.cpu.d := rfl
@[simp] theorem State.setIme_cpu_e (s : State) (v : Bool) : (s.setIme v).cpu.e = s.cpu.e := rfl
@[simp] theorem State.setIme_cpu_h (s : State) (v : Bool) : (s.setIme v).cpu.h = s.cpu.h := rfl
@[simp] theorem State.setIme_cpu_l (s : State) (v : Bool) : (s.setIme v).cpu.l = s.cpu.l := rfl
@[simp] theorem State.setIme_cpu_sp (s : State) (v : Bool) : (s.setIme v).cpu.sp = s.cpu.sp := rfl
@[simp] theorem State.setIme_cpu_pc (s : State) (v : Bool) : (s.setIme v).cpu.pc = s.cpu.pc := rfl
@[simp] theorem State.setIme_cpu_halted (s : State) (v : Bool) : (s.setIme v).cpu.halted = s.cpu.halted := rfl
@[simp] theorem State.setIme_cpu_ime (s : State) (v : Bool) : (s.setIme v).cpu.ime = v := rfl
@[simp] theorem State.setIme_cpu_cyclesRemaining (s : State) (v : Bool) : (s.setIme v).cpu.cyclesRemaining = s.cpu.cyclesRemaining := rfl
@[simp] theorem State.setIme_cpu_cbPrefixPending (s : State) (v : Bool) : (s.setIme v).cpu.cbPrefixPending = s.cpu.cbPrefixPending := rfl

/-! `State.setHalted`. -/
@[simp] theorem State.setHalted_irq (s : State) (v : Bool) : (s.setHalted v).irq = s.irq := rfl
@[simp] theorem State.setHalted_timer (s : State) (v : Bool) : (s.setHalted v).timer = s.timer := rfl
@[simp] theorem State.setHalted_ppu (s : State) (v : Bool) : (s.setHalted v).ppu = s.ppu := rfl
@[simp] theorem State.setHalted_mem (s : State) (v : Bool) : (s.setHalted v).mem = s.mem := rfl
@[simp] theorem State.setHalted_bootRom (s : State) (v : Bool) : (s.setHalted v).bootRom = s.bootRom := rfl
@[simp] theorem State.setHalted_bootOverlay (s : State) (v : Bool) : (s.setHalted v).bootOverlay = s.bootOverlay := rfl
@[simp] theorem State.setHalted_frame (s : State) (v : Bool) : (s.setHalted v).frame = s.frame := rfl
@[simp] theorem State.setHalted_params (s : State) (v : Bool) : (s.setHalted v).params = s.params := rfl
@[simp] theorem State.setHalted_serialInput (s : State) (v : Bool) : (s.setHalted v).serialInput = s.serialInput := rfl
@[simp] theorem State.setHalted_hostInput (s : State) (v : Bool) : (s.setHalted v).hostInput = s.hostInput := rfl
@[simp] theorem State.setHalted_drawCount (s : State) (v : Bool) : (s.setHalted v).drawCount = s.drawCount := rfl
@[simp] theorem State.setHalted_cpu_a (s : State) (v : Bool) : (s.setHalted v).cpu.a = s.cpu.a := rfl
@[simp] theorem State.setHalted_cpu_f (s : State) (v : Bool) : (s.setHalted v).cpu.f = s.cpu.f := rfl
@[simp] theorem State.setHalted_cpu_b (s : State) (v : Bool) : (s.setHalted v).cpu.b = s.cpu.b := rfl
@[simp] theorem State.setHalted_cpu_c (s : State) (v : Bool) : (s.setHalted v).cpu.c = s.cpu.c := rfl
@[simp] theorem State.setHalted_cpu_d (s : State) (v : Bool) : (s.setHalted v).cpu.d = s.cpu.d := rfl
@[simp] theorem State.setHalted_cpu_e (s : State) (v : Bool) : (s.setHalted v).cpu.e = s.cpu.e := rfl
@[simp] theorem State.setHalted_cpu_h (s : State) (v : Bool) : (s.setHalted v).cpu.h = s.cpu.h := rfl
@[simp] theorem State.setHalted_cpu_l (s : State) (v : Bool) : (s.setHalted v).cpu.l = s.cpu.l := rfl
@[simp] theorem State.setHalted_cpu_sp (s : State) (v : Bool) : (s.setHalted v).cpu.sp = s.cpu.sp := rfl
@[simp] theorem State.setHalted_cpu_pc (s : State) (v : Bool) : (s.setHalted v).cpu.pc = s.cpu.pc := rfl
@[simp] theorem State.setHalted_cpu_halted (s : State) (v : Bool) : (s.setHalted v).cpu.halted = v := rfl
@[simp] theorem State.setHalted_cpu_ime (s : State) (v : Bool) : (s.setHalted v).cpu.ime = s.cpu.ime := rfl
@[simp] theorem State.setHalted_cpu_cyclesRemaining (s : State) (v : Bool) : (s.setHalted v).cpu.cyclesRemaining = s.cpu.cyclesRemaining := rfl
@[simp] theorem State.setHalted_cpu_cbPrefixPending (s : State) (v : Bool) : (s.setHalted v).cpu.cbPrefixPending = s.cpu.cbPrefixPending := rfl

/-! `State.setCbPending`. -/
@[simp] theorem State.setCbPending_irq (s : State) (v : Bool) : (s.setCbPending v).irq = s.irq := rfl
@[simp] theorem State.setCbPending_timer (s : State) (v : Bool) : (s.setCbPending v).timer = s.timer := rfl
@[simp] theorem State.setCbPending_ppu (s : State) (v : Bool) : (s.setCbPending v).ppu = s.ppu := rfl
@[simp] theorem State.setCbPending_mem (s : State) (v : Bool) : (s.setCbPending v).mem = s.mem := rfl
@[simp] theorem State.setCbPending_bootRom (s : State) (v : Bool) : (s.setCbPending v).bootRom = s.bootRom := rfl
@[simp] theorem State.setCbPending_bootOverlay (s : State) (v : Bool) : (s.setCbPending v).bootOverlay = s.bootOverlay := rfl
@[simp] theorem State.setCbPending_frame (s : State) (v : Bool) : (s.setCbPending v).frame = s.frame := rfl
@[simp] theorem State.setCbPending_params (s : State) (v : Bool) : (s.setCbPending v).params = s.params := rfl
@[simp] theorem State.setCbPending_serialInput (s : State) (v : Bool) : (s.setCbPending v).serialInput = s.serialInput := rfl
@[simp] theorem State.setCbPending_hostInput (s : State) (v : Bool) : (s.setCbPending v).hostInput = s.hostInput := rfl
@[simp] theorem State.setCbPending_drawCount (s : State) (v : Bool) : (s.setCbPending v).drawCount = s.drawCount := rfl
@[simp] theorem State.setCbPending_cpu_a (s : State) (v : Bool) : (s.setCbPending v).cpu.a = s.cpu.a := rfl
@[simp] theorem State.setCbPending_cpu_f (s : State) (v : Bool) : (s.setCbPending v).cpu.f = s.cpu.f := rfl
@[simp] theorem State.setCbPending_cpu_b (s : State) (v : Bool) : (s.setCbPending v).cpu.b = s.cpu.b := rfl
@[simp] theorem State.setCbPending_cpu_c (s : State) (v : Bool) : (s.setCbPending v).cpu.c = s.cpu.c := rfl
@[simp] theorem State.setCbPending_cpu_d (s : State) (v : Bool) : (s.setCbPending v).cpu.d = s.cpu.d := rfl
@[simp] theorem State.setCbPending_cpu_e (s : State) (v : Bool) : (s.setCbPending v).cpu.e = s.cpu.e := rfl
@[simp] theorem State.setCbPending_cpu_h (s : State) (v : Bool) : (s.setCbPending v).cpu.h = s.cpu.h := rfl
@[simp] theorem State.setCbPending_cpu_l (s : State) (v : Bool) : (s.setCbPending v).cpu.l = s.cpu.l := rfl
@[simp] theorem State.setCbPending_cpu_sp (s : State) (v : Bool) : (s.setCbPending v).cpu.sp = s.cpu.sp := rfl
@[simp] theorem State.setCbPending_cpu_pc (s : State) (v : Bool) : (s.setCbPending v).cpu.pc = s.cpu.pc := rfl
@[simp] theorem State.setCbPending_cpu_halted (s : State) (v : Bool) : (s.setCbPending v).cpu.halted = s.cpu.halted := rfl
@[simp] theorem State.setCbPending_cpu_ime (s : State) (v : Bool) : (s.setCbPending v).cpu.ime = s.cpu.ime := rfl
@[simp] theorem State.setCbPending_cpu_cyclesRemaining (s : State) (v : Bool) : (s.setCbPending v).cpu.cyclesRemaining = s.cpu.cyclesRemaining := rfl
@[simp] theorem State.setCbPending_cpu_cbPrefixPending (s : State) (v : Bool) : (s.setCbPending v).cpu.cbPrefixPending = v := rfl

/-! `State.setCycles`. -/
@[simp] theorem State.setCycles_irq (s : State) (v : Byte) : (s.setCycles v).irq = s.irq := rfl
@[simp] theorem State.setCycles_timer (s : State) (v : Byte) : (s.setCycles v).timer = s.timer := rfl
@[simp] theorem State.setCycles_ppu (s : State) (v : Byte) : (s.setCycles v).ppu = s.ppu := rfl
@[simp] theorem State.setCycles_mem (s : State) (v : Byte) : (s.setCycles v).mem = s.mem := rfl
@[simp] theorem State.setCycles_bootRom (s : State) (v : Byte) : (s.setCycles v).bootRom = s.bootRom := rfl
@[simp] theorem State.setCycles_bootOverlay (s : State) (v : Byte) : (s.setCycles v).bootOverlay = s.bootOverlay := rfl
@[simp] theorem State.setCycles_frame (s : State) (v : Byte) : (s.setCycles v).frame = s.frame := rfl
@[simp] theorem State.setCycles_params (s : State) (v : Byte) : (s.setCycles v).params = s.params := rfl
@[simp] theorem State.setCycles_serialInput (s : State) (v : Byte) : (s.setCycles v).serialInput = s.serialInput := rfl
@[simp] theorem State.setCycles_hostInput (s : State) (v : Byte) : (s.setCycles v).hostInput = s.hostInput := rfl
@[simp] theorem State.setCycles_drawCount (s : State) (v : Byte) : (s.setCycles v).drawCount = s.drawCount := rfl
@[simp] theorem State.setCycles_cpu_a (s : State) (v : Byte) : (s.setCycles v).cpu.a = s.cpu.a := rfl
@[simp] theorem State.setCycles_cpu_f (s : State) (v : Byte) : (s.setCycles v).cpu.f = s.cpu.f := rfl
@[simp] theorem State.setCycles_cpu_b (s : State) (v : Byte) : (s.setCycles v).cpu.b = s.cpu.b := rfl
@[simp] theorem State.setCycles_cpu_c (s : State) (v : Byte) : (s.setCycles v).cpu.c = s.cpu.c := rfl
@[simp] theorem State.setCycles_cpu_d (s : State) (v : Byte) : (s.setCycles v).cpu.d = s.cpu.d := rfl
@[simp] theorem State.setCycles_cpu_e (s : State) (v : Byte) : (s.setCycles v).cpu.e = s.cpu.e := rfl
@[simp] theorem State.setCycles_cpu_h (s : State) (v : Byte) : (s.setCycles v).cpu.h = s.cpu.h := rfl
@[simp] theorem State.setCycles_cpu_l (s : State) (v : Byte) : (s.setCycles v).cpu.l = s.cpu.l := rfl
@[simp] theorem State.setCycles_cpu_sp (s : State) (v : Byte) : (s.setCycles v).cpu.sp = s.cpu.sp := rfl
@[simp] theorem State.setCycles_cpu_pc (s : State) (v : Byte) : (s.setCycles v).cpu.pc = s.cpu.pc := rfl
@[simp] theorem State.setCycles_cpu_halted (s : State) (v : Byte) : (s.setCycles v).cpu.halted = s.cpu.halted := rfl
@[simp] theorem State.setCycles_cpu_ime (s : State) (v : Byte) : (s.setCycles v).cpu.ime = s.cpu.ime := rfl
@[simp] theorem State.setCycles_cpu_cyclesRemaining (s : State) (v : Byte) : (s.setCycles v).cpu.cyclesRemaining = v := rfl
@[simp] theorem State.setCycles_cpu_cbPrefixPending (s : State) (v : Byte) : (s.setCycles v).cpu.cbPrefixPending = s.cpu.cbPrefixPending := rfl

/-! `State.setPc`. -/
@[simp] theorem State.setPc_irq (s : State) (v : Word) : (s.setPc v).irq = s.irq := rfl
@[simp] theorem State.setPc_timer (s : State) (v : Word) : (s.setPc v).timer = s.timer := rfl
@[simp] theorem State.setPc_ppu (s : State) (v : Word) : (s.setPc v).ppu = s.ppu := rfl
@[simp] theorem State.setPc_mem (s : State) (v : Word) : (s.setPc v).mem = s.mem := rfl
@[simp] theorem State.setPc_bootRom (s : State) (v : Word) : (s.setPc v).bootRom = s.bootRom := rfl
@[simp] theorem State.setPc_bootOverlay (s : State) (v : Word) : (s.setPc v).bootOverlay = s.bootOverlay := rfl
@[simp] theorem State.setPc_frame (s : State) (v : Word) : (s.setPc v).frame = s.frame := rfl
@[simp] theorem State.setPc_params (s : State) (v : Word) : (s.setPc v).params = s.params := rfl
@[simp] theorem State.setPc_serialInput (s : State) (v : Word) : (s.setPc v).serialInput = s.serialInput := rfl
@[simp] theorem State.setPc_hostInput (s : State) (v : Word) : (s.setPc v).hostInput = s.hostInput := rfl
@[simp] theorem State.setPc_drawCount (s : State) (v : Word) : (s.setPc v).drawCount = s.drawCount := rfl
@[simp] theorem State.setPc_cpu_a (s : State) (v : Word) : (s.setPc v).cpu.a = s.cpu.a := rfl
@[simp] theorem State.setPc_cpu_f (s : State) (v : Word) : (s.setPc v).cpu.f = s.cpu.f := rfl
@[simp] theorem State.setPc_cpu_b (s : State) (v : Word) : (s.setPc v).cpu.b = s.cpu.b := rfl
@[simp] theorem State.setPc_cpu_c (s : State) (v : Word) : (s.setPc v).cpu.c = s.cpu.c := rfl
@[simp] theorem State.setPc_cpu_d (s : State) (v : Word) : (s.setPc v).cpu.d = s.cpu.d := rfl
@[simp] theorem State.setPc_cpu_e (s : State) (v : Word) : (s.setPc v).cpu.e = s.cpu.e := rfl
@[simp] theorem State.setPc_cpu_h (s : State) (v : Word) : (s.setPc v).cpu.h = s.cpu.h := rfl
@[simp] theorem State.setPc_cpu_l (s : State) (v : Word) : (s.setPc v).cpu.l = s.cpu.l := rfl
@[simp] theorem State.setPc_cpu_sp (s : State) (v : Word) : (s.setPc v).cpu.sp = s.cpu.sp := rfl
@[simp] theorem State.setPc_cpu_pc (s : State) (v : Word) : (s.setPc v).cpu.pc = v := rfl
@[simp] theorem State.setPc_cpu_halted (s : State) (v : Word) : (s.setPc v).cpu.halted = s.cpu.halted := rfl
@[simp] theorem State.setPc_cpu_ime (s : State) (v : Word) : (s.setPc v).cpu.ime = s.cpu.ime := rfl
@[simp] theorem State.setPc_cpu_cyclesRemaining (s : State) (v : Word) : (s.setPc v).cpu.cyclesRemaining = s.cpu.cyclesRemaining := rfl
@[simp] theorem State.setPc_cpu_cbPrefixPending (s : State) (v : Word) : (s.setPc v).cpu.cbPrefixPending = s.cpu.cbPrefixPending := rfl

/-! `State.putAlu`. -/
@[simp] theorem State.putAlu_irq (s : State) (r : AluResult) : (s.putAlu r).irq = s.irq := rfl
@[simp] theorem State.putAlu_timer (s : State) (r : AluResult) : (s.putAlu r).timer = s.timer := rfl
@[simp] theorem State.putAlu_ppu (s : State) (r : AluResult) : (s.putAlu r).ppu = s.ppu := rfl
@[simp] theorem State.putAlu_mem (s : State) (r : AluResult) : (s.putAlu r).mem = s.mem := rfl
@[simp] theorem State.putAlu_bootRom (s : State) (r : AluResult) : (s.putAlu r).bootRom = s.bootRom := rfl
@[simp] theorem State.putAlu_bootOverlay (s : State) (r : AluResult) : (s.putAlu r).bootOverlay = s.bootOverlay := rfl
@[simp] theorem State.putAlu_frame (s : State) (r : AluResult) : (s.putAlu r).frame = s.frame := rfl
@[simp] theorem State.putAlu_params (s : State) (r : AluResult) : (s.putAlu r).params = s.params := rfl
@[simp] theorem State.putAlu_serialInput (s : State) (r : AluResult) : (s.putAlu r).serialInput = s.serialInput := rfl
@[simp] theorem State.putAlu_hostInput (s : State) (r : AluResult) : (s.putAlu r).hostInput = s.hostInput := rfl
@[simp] theorem State.putAlu_drawCount (s : State) (r : AluResult) : (s.putAlu r).drawCount = s.drawCount := rfl
@[simp] theorem State.putAlu_cpu_a (s : State) (r : AluResult) : (s.putAlu r).cpu.a = r.value := rfl
@[simp] theorem State.putAlu_cpu_f (s : State) (r : AluResult) : (s.putAlu r).cpu.f = packFlags r.z r.n r.h r.c := rfl
@[simp] theorem State.putAlu_cpu_b (s : State) (r : AluResult) : (s.putAlu r).cpu.b = s.cpu.b := rfl
@[simp] theorem State.putAlu_cpu_c (s : State) (r : AluResult) : (s.putAlu r).cpu.c = s.cpu.c := rfl
@[simp] theorem State.putAlu_cpu_d (s : State) (r : AluResult) : (s.putAlu r).cpu.d = s.cpu.d := rfl
@[simp] theorem State.putAlu_cpu_e (s : State) (r : AluResult) : (s.putAlu r).cpu.e = s.cpu.e := rfl
@[simp] theorem State.putAlu_cpu_h (s : State) (r : AluResult) : (s.putAlu r).cpu.h = s.cpu.h := rfl
@[simp] theorem State.putAlu_cpu_l (s : State) (r : AluResult) : (s.putAlu r).cpu.l = s.cpu.l := rfl
@[simp] theorem State.putAlu_cpu_sp (s : State) (r : AluResult) : (s.putAlu r).cpu.sp = s.cpu.sp := rfl
@[simp] theorem State.putAlu_cpu_pc (s : State) (r : AluResult) : (s.putAlu r).cpu.pc = s.cpu.pc := rfl
@[simp] theorem State.putAlu_cpu_halted (s : State) (r : AluResult) : (s.putAlu r).cpu.halted = s.cpu.halted := rfl
@[simp] theorem State.putAlu_cpu_ime (s : State) (r : AluResult) : (s.putAlu r).cpu.ime = s.cpu.ime := rfl
@[simp] theorem State.putAlu_cpu_cyclesRemaining (s : State) (r : AluResult) : (s.putAlu r).cpu.cyclesRemaining = s.cpu.cyclesRemaining := rfl
@[simp] theorem State.putAlu_cpu_cbPrefixPending (s : State) (r : AluResult) : (s.putAlu r).cpu.cbPrefixPending = s.cpu.cbPrefixPending := rfl

/-! `State.putFlags`. -/
@[simp] theorem State.putFlags_irq (s : State) (r : AluResult) : (s.putFlags r).irq = s.irq := rfl
@[simp] theorem State.putFlags_timer (s : State) (r : AluResult) : (s.putFlags r).timer = s.timer := rfl
@[simp] theorem State.putFlags_ppu (s : State) (r : AluResult) : (s.putFlags r).ppu = s.ppu := rfl
@[simp] theorem State.putFlags_mem (s : State) (r : AluResult) : (s.putFlags r).mem = s.mem := rfl
@[simp] theorem State.putFlags_bootRom (s : State) (r : AluResult) : (s.putFlags r).bootRom = s.bootRom := rfl
@[simp] theorem State.putFlags_bootOverlay (s : State) (r : AluResult) : (s.putFlags r).bootOverlay = s.bootOverlay := rfl
@[simp] theorem State.putFlags_frame (s : State) (r : AluResult) : (s.putFlags r).frame = s.frame := rfl
@[simp] theorem State.putFlags_params (s : State) (r : AluResult) : (s.putFlags r).params = s.params := rfl
@[simp] theorem State.putFlags_serialInput (s : State) (r : AluResult) : (s.putFlags r).serialInput = s.serialInput := rfl
@[simp] theorem State.putFlags_hostInput (s : State) (r : AluResult) : (s.putFlags r).hostInput = s.hostInput := rfl
@[simp] theorem State.putFlags_drawCount (s : State) (r : AluResult) : (s.putFlags r).drawCount = s.drawCount := rfl
@[simp] theorem State.putFlags_cpu_a (s : State) (r : AluResult) : (s.putFlags r).cpu.a = s.cpu.a := rfl
@[simp] theorem State.putFlags_cpu_f (s : State) (r : AluResult) : (s.putFlags r).cpu.f = packFlags r.z r.n r.h r.c := rfl
@[simp] theorem State.putFlags_cpu_b (s : State) (r : AluResult) : (s.putFlags r).cpu.b = s.cpu.b := rfl
@[simp] theorem State.putFlags_cpu_c (s : State) (r : AluResult) : (s.putFlags r).cpu.c = s.cpu.c := rfl
@[simp] theorem State.putFlags_cpu_d (s : State) (r : AluResult) : (s.putFlags r).cpu.d = s.cpu.d := rfl
@[simp] theorem State.putFlags_cpu_e (s : State) (r : AluResult) : (s.putFlags r).cpu.e = s.cpu.e := rfl
@[simp] theorem State.putFlags_cpu_h (s : State) (r : AluResult) : (s.putFlags r).cpu.h = s.cpu.h := rfl
@[simp] theorem State.putFlags_cpu_l (s : State) (r : AluResult) : (s.putFlags r).cpu.l = s.cpu.l := rfl
@[simp] theorem State.putFlags_cpu_sp (s : State) (r : AluResult) : (s.putFlags r).cpu.sp = s.cpu.sp := rfl
@[simp] theorem State.putFlags_cpu_pc (s : State) (r : AluResult) : (s.putFlags r).cpu.pc = s.cpu.pc := rfl
@[simp] theorem State.putFlags_cpu_halted (s : State) (r : AluResult) : (s.putFlags r).cpu.halted = s.cpu.halted := rfl
@[simp] theorem State.putFlags_cpu_ime (s : State) (r : AluResult) : (s.putFlags r).cpu.ime = s.cpu.ime := rfl
@[simp] theorem State.putFlags_cpu_cyclesRemaining (s : State) (r : AluResult) : (s.putFlags r).cpu.cyclesRemaining = s.cpu.cyclesRemaining := rfl
@[simp] theorem State.putFlags_cpu_cbPrefixPending (s : State) (r : AluResult) : (s.putFlags r).cpu.cbPrefixPending = s.cpu.cbPrefixPending := rfl

/-! `State.setFlags`. -/
@[simp] theorem State.setFlags_irq (s : State) (z n h fc : Bool) : (s.setFlags z n h fc).irq = s.irq := rfl
@[simp] theorem State.setFlags_timer (s : State) (z n h fc : Bool) : (s.setFlags z n h fc).timer = s.timer := rfl
@[simp] theorem State.setFlags_ppu (s : State) (z n h fc : Bool) : (s.setFlags z n h fc).ppu = s.ppu := rfl
@[simp] theorem State.setFlags_mem (s : State) (z n h fc : Bool) : (s.setFlags z n h fc).mem = s.mem := rfl
@[simp] theorem State.setFlags_bootRom (s : State) (z n h fc : Bool) : (s.setFlags z n h fc).bootRom = s.bootRom := rfl
@[simp] theorem State.setFlags_bootOverlay (s : State) (z n h fc : Bool) : (s.setFlags z n h fc).bootOverlay = s.bootOverlay := rfl
@[simp] theorem State.setFlags_frame (s : State) (z n h fc : Bool) : (s.setFlags z n h fc).frame = s.frame := rfl
@[simp] theorem State.setFlags_params (s : State) (z n h fc : Bool) : (s.setFlags z n h fc).params = s.params := rfl
@[simp] theorem State.setFlags_serialInput (s : State) (z n h fc : Bool) : (s.setFlags z n h fc).serialInput = s.serialInput := rfl
@[simp] theorem State.setFlags_hostInput (s : State) (z n h fc : Bool) : (s.setFlags z n h fc).hostInput = s.hostInput := rfl
@[simp] theorem State.setFlags_drawCount (s : State) (z n h fc : Bool) : (s.setFlags z n h fc).drawCount = s.drawCount := rfl
@[simp] theorem State.setFlags_cpu_a (s : State) (z n h fc : Bool) : (s.setFlags z n h fc).cpu.a = s.cpu.a := rfl
@[simp] theorem State.setFlags_cpu_f (s : State) (z n h fc : Bool) : (s.setFlags z n h fc).cpu.f = packFlags z n h fc := rfl
@[simp] theorem State.setFlags_cpu_b (s : State) (z n h fc : Bool) : (s.setFlags z n h fc).cpu.b = s.cpu.b := rfl
@[simp] theorem State.setFlags_cpu_c (s : State) (z n h fc : Bool) : (s.setFlags z n h fc).cpu.c = s.cpu.c := rfl
@[simp] theorem State.setFlags_cpu_d (s : State) (z n h fc : Bool) : (s.setFlags z n h fc).cpu.d = s.cpu.d := rfl
@[simp] theorem State.setFlags_cpu_e (s : State) (z n h fc : Bool) : (s.setFlags z n h fc).cpu.e = s.cpu.e := rfl
@[simp] theorem State.setFlags_cpu_h (s : State) (z n h fc : Bool) : (s.setFlags z n h fc).cpu.h = s.cpu.h := rfl
@[simp] theorem State.setFlags_cpu_l (s : State) (z n h fc : Bool) : (s.setFlags z n h fc).cpu.l = s.cpu.l := rfl
@[simp] theorem State.setFlags_cpu_sp (s : State) (z n h fc : Bool) : (s.setFlags z n h fc).cpu.sp = s.cpu.sp := rfl
@[simp] theorem State.setFlags_cpu_pc (s : State) (z n h fc : Bool) : (s.setFlags z n h fc).cpu.pc = s.cpu.pc := rfl
@[simp] theorem State.setFlags_cpu_halted (s : State) (z n h fc : Bool) : (s.setFlags z n h fc).cpu.halted = s.cpu.halted := rfl
@[simp] theorem State.setFlags_cpu_ime (s : State) (z n h fc : Bool) : (s.setFlags z n h fc).cpu.ime = s.cpu.ime := rfl
@[simp] theorem State.setFlags_cpu_cyclesRemaining (s : State) (z n h fc : Bool) : (s.setFlags z n h fc).cpu.cyclesRemaining = s.cpu.cyclesRemaining := rfl
@[simp] theorem State.setFlags_cpu_cbPrefixPending (s : State) (z n h fc : Bool) : (s.setFlags z n h fc).cpu.cbPrefixPending = s.cpu.cbPrefixPending := rfl

/-! `State.goTo`. -/
@[simp] theorem State.goTo_irq (s : State) (target : Word) (cost : Byte) : (s.goTo target cost).irq = s.irq := rfl
@[simp] theorem State.goTo_timer (s : State) (target : Word) (cost : Byte) : (s.goTo target cost).timer = s.timer := rfl
@[simp] theorem State.goTo_ppu (s : State) (target : Word) (cost : Byte) : (s.goTo target cost).ppu = s.ppu := rfl
@[simp] theorem State.goTo_mem (s : State) (target : Word) (cost : Byte) : (s.goTo target cost).mem = s.mem := rfl
@[simp] theorem State.goTo_bootRom (s : State) (target : Word) (cost : Byte) : (s.goTo target cost).bootRom = s.bootRom := rfl
@[simp] theorem State.goTo_bootOverlay (s : State) (target : Word) (cost : Byte) : (s.goTo target cost).bootOverlay = s.bootOverlay := rfl
@[simp] theorem State.goTo_frame (s : State) (target : Word) (cost : Byte) : (s.goTo target cost).frame = s.frame := rfl
@[simp] theorem State.goTo_params (s : State) (target : Word) (cost : Byte) : (s.goTo target cost).params = s.params := rfl
@[simp] theorem State.goTo_serialInput (s : State) (target : Word) (cost : Byte) : (s.goTo target cost).serialInput = s.serialInput := rfl
@[simp] theorem State.goTo_hostInput (s : State) (target : Word) (cost : Byte) : (s.goTo target cost).hostInput = s.hostInput := rfl
@[simp] theorem State.goTo_drawCount (s : State) (target : Word) (cost : Byte) : (s.goTo target cost).drawCount = s.drawCount := rfl
@[simp] theorem State.goTo_cpu_a (s : State) (target : Word) (cost : Byte) : (s.goTo target cost).cpu.a = s.cpu.a := rfl
@[simp] theorem State.goTo_cpu_f (s : State) (target : Word) (cost : Byte) : (s.goTo target cost).cpu.f = s.cpu.f := rfl
@[simp] theorem State.goTo_cpu_b (s : State) (target : Word) (cost : Byte) : (s.goTo target cost).cpu.b = s.cpu.b := rfl
@[simp] theorem State.goTo_cpu_c (s : State) (target : Word) (cost : Byte) : (s.goTo target cost).cpu.c = s.cpu.c := rfl
@[simp] theorem State.goTo_cpu_d (s : State) (target : Word) (cost : Byte) : (s.goTo target cost).cpu.d = s.cpu.d := rfl
@[simp] theorem State.goTo_cpu_e (s : State) (target : Word) (cost : Byte) : (s.goTo target cost).cpu.e = s.cpu.e := rfl
@[simp] theorem State.goTo_cpu_h (s : State) (target : Word) (cost : Byte) : (s.goTo target cost).cpu.h = s.cpu.h := rfl
@[simp] theorem State.goTo_cpu_l (s : State) (target : Word) (cost : Byte) : (s.goTo target cost).cpu.l = s.cpu.l := rfl
@[simp] theorem State.goTo_cpu_sp (s : State) (target : Word) (cost : Byte) : (s.goTo target cost).cpu.sp = s.cpu.sp := rfl
@[simp] theorem State.goTo_cpu_pc (s : State) (target : Word) (cost : Byte) : (s.goTo target cost).cpu.pc = target := rfl
@[simp] theorem State.goTo_cpu_halted (s : State) (target : Word) (cost : Byte) : (s.goTo target cost).cpu.halted = s.cpu.halted := rfl
@[simp] theorem State.goTo_cpu_ime (s : State) (target : Word) (cost : Byte) : (s.goTo target cost).cpu.ime = s.cpu.ime := rfl
@[simp] theorem State.goTo_cpu_cyclesRemaining (s : State) (target : Word) (cost : Byte) : (s.goTo target cost).cpu.cyclesRemaining = cost := rfl
@[simp] theorem State.goTo_cpu_cbPrefixPending (s : State) (target : Word) (cost : Byte) : (s.goTo target cost).cpu.cbPrefixPending = s.cpu.cbPrefixPending := rfl

/-! `State.retire`. -/
@[simp] theorem State.retire_irq (s : State) (len : Word) (cost : Byte) : (s.retire len cost).irq = s.irq := rfl
@[simp] theorem State.retire_timer (s : State) (len : Word) (cost : Byte) : (s.retire len cost).timer = s.timer := rfl
@[simp] theorem State.retire_ppu (s : State) (len : Word) (cost : Byte) : (s.retire len cost).ppu = s.ppu := rfl
@[simp] theorem State.retire_mem (s : State) (len : Word) (cost : Byte) : (s.retire len cost).mem = s.mem := rfl
@[simp] theorem State.retire_bootRom (s : State) (len : Word) (cost : Byte) : (s.retire len cost).bootRom = s.bootRom := rfl
@[simp] theorem State.retire_bootOverlay (s : State) (len : Word) (cost : Byte) : (s.retire len cost).bootOverlay = s.bootOverlay := rfl
@[simp] theorem State.retire_frame (s : State) (len : Word) (cost : Byte) : (s.retire len cost).frame = s.frame := rfl
@[simp] theorem State.retire_params (s : State) (len : Word) (cost : Byte) : (s.retire len cost).params = s.params := rfl
@[simp] theorem State.retire_serialInput (s : State) (len : Word) (cost : Byte) : (s.retire len cost).serialInput = s.serialInput := rfl
@[simp] theorem State.retire_hostInput (s : State) (len : Word) (cost : Byte) : (s.retire len cost).hostInput = s.hostInput := rfl
@[simp] theorem State.retire_drawCount (s : State) (len : Word) (cost : Byte) : (s.retire len cost).drawCount = s.drawCount := rfl
@[simp] theorem State.retire_cpu_a (s : State) (len : Word) (cost : Byte) : (s.retire len cost).cpu.a = s.cpu.a := rfl
@[simp] theorem State.retire_cpu_f (s : State) (len : Word) (cost : Byte) : (s.retire len cost).cpu.f = s.cpu.f := rfl
@[simp] theorem State.retire_cpu_b (s : State) (len : Word) (cost : Byte) : (s.retire len cost).cpu.b = s.cpu.b := rfl
@[simp] theorem State.retire_cpu_c (s : State) (len : Word) (cost : Byte) : (s.retire len cost).cpu.c = s.cpu.c := rfl
@[simp] theorem State.retire_cpu_d (s : State) (len : Word) (cost : Byte) : (s.retire len cost).cpu.d = s.cpu.d := rfl
@[simp] theorem State.retire_cpu_e (s : State) (len : Word) (cost : Byte) : (s.retire len cost).cpu.e = s.cpu.e := rfl
@[simp] theorem State.retire_cpu_h (s : State) (len : Word) (cost : Byte) : (s.retire len cost).cpu.h = s.cpu.h := rfl
@[simp] theorem State.retire_cpu_l (s : State) (len : Word) (cost : Byte) : (s.retire len cost).cpu.l = s.cpu.l := rfl
@[simp] theorem State.retire_cpu_sp (s : State) (len : Word) (cost : Byte) : (s.retire len cost).cpu.sp = s.cpu.sp := rfl
@[simp] theorem State.retire_cpu_pc (s : State) (len : Word) (cost : Byte) : (s.retire len cost).cpu.pc = s.cpu.pc + len := rfl
@[simp] theorem State.retire_cpu_halted (s : State) (len : Word) (cost : Byte) : (s.retire len cost).cpu.halted = s.cpu.halted := rfl
@[simp] theorem State.retire_cpu_ime (s : State) (len : Word) (cost : Byte) : (s.retire len cost).cpu.ime = s.cpu.ime := rfl
@[simp] theorem State.retire_cpu_cyclesRemaining (s : State) (len : Word) (cost : Byte) : (s.retire len cost).cpu.cyclesRemaining = cost := rfl
@[simp] theorem State.retire_cpu_cbPrefixPending (s : State) (len : Word) (cost : Byte) : (s.retire len cost).cpu.cbPrefixPending = s.cpu.cbPrefixPending := rfl

/-! `State.popped`. -/
@[simp] theorem State.popped_irq (s : State) : (s.popped).irq = s.irq := rfl
@[simp] theorem State.popped_timer (s : State) : (s.popped).timer = s.timer := rfl
@[simp] theorem State.popped_ppu (s : State) : (s.popped).ppu = s.ppu := rfl
@[simp] theorem State.popped_mem (s : State) : (s.popped).mem = s.mem := rfl
@[simp] theorem State.popped_bootRom (s : State) : (s.popped).bootRom = s.bootRom := rfl
@[simp] theorem State.popped_bootOverlay (s : State) : (s.popped).bootOverlay = s.bootOverlay := rfl
@[simp] theorem State.popped_frame (s : State) : (s.popped).frame = s.frame := rfl
@[simp] theorem State.popped_params (s : State) : (s.popped).params = s.params := rfl
@[simp] theorem State.popped_serialInput (s : State) : (s.popped).serialInput = s.serialInput := rfl
@[simp] theorem State.popped_hostInput (s : State) : (s.popped).hostInput = s.hostInput := rfl
@[simp] theorem State.popped_drawCount (s : State) : (s.popped).drawCount = s.drawCount := rfl
@[simp] theorem State.popped_cpu_a (s : State) : (s.popped).cpu.a = s.cpu.a := rfl
@[simp] theorem State.popped_cpu_f (s : State) : (s.popped).cpu.f = s.cpu.f := rfl
@[simp] theorem State.popped_cpu_b (s : State) : (s.popped).cpu.b = s.cpu.b := rfl
@[simp] theorem State.popped_cpu_c (s : State) : (s.popped).cpu.c = s.cpu.c := rfl
@[simp] theorem State.popped_cpu_d (s : State) : (s.popped).cpu.d = s.cpu.d := rfl
@[simp] theorem State.popped_cpu_e (s : State) : (s.popped).cpu.e = s.cpu.e := rfl
@[simp] theorem State.popped_cpu_h (s : State) : (s.popped).cpu.h = s.cpu.h := rfl
@[simp] theorem State.popped_cpu_l (s : State) : (s.popped).cpu.l = s.cpu.l := rfl
@[simp] theorem State.popped_cpu_sp (s : State) : (s.popped).cpu.sp = s.cpu.sp + 2 := rfl
@[simp] theorem State.popped_cpu_pc (s : State) : (s.popped).cpu.pc = s.cpu.pc := rfl
@[simp] theorem State.popped_cpu_halted (s : State) : (s.popped).cpu.halted = s.cpu.halted := rfl
@[simp] theorem State.popped_cpu_ime (s : State) : (s.popped).cpu.ime = s.cpu.ime := rfl
@[simp] theorem State.popped_cpu_cyclesRemaining (s : State) : (s.popped).cpu.cyclesRemaining = s.cpu.cyclesRemaining := rfl
@[simp] theorem State.popped_cpu_cbPrefixPending (s : State) : (s.popped).cpu.cbPrefixPending = s.cpu.cbPrefixPending := rfl

/-! `State.setIf`. -/
@[simp] theorem State.setIf_cpu (s : State) (v : Byte) : (s.setIf v).cpu = s.cpu := rfl
@[simp] theorem State.setIf_irq (s : State) (v : Byte) : (s.setIf v).irq = { s.irq with iflag := v } := rfl
@[simp] theorem State.setIf_timer (s : State) (v : Byte) : (s.setIf v).timer = s.timer := rfl
@[simp] theorem State.setIf_ppu (s : State) (v : Byte) : (s.setIf v).ppu = s.ppu := rfl
@[simp] theorem State.setIf_mem (s : State) (v : Byte) : (s.setIf v).mem = s.mem := rfl
@[simp] theorem State.setIf_bootRom (s : State) (v : Byte) : (s.setIf v).bootRom = s.bootRom := rfl
@[simp] theorem State.setIf_bootOverlay (s : State) (v : Byte) : (s.setIf v).bootOverlay = s.bootOverlay := rfl
@[simp] theorem State.setIf_frame (s : State) (v : Byte) : (s.setIf v).frame = s.frame := rfl
@[simp] theorem State.setIf_params (s : State) (v : Byte) : (s.setIf v).params = s.params := rfl
@[simp] theorem State.setIf_serialInput (s : State) (v : Byte) : (s.setIf v).serialInput = s.serialInput := rfl
@[simp] theorem State.setIf_hostInput (s : State) (v : Byte) : (s.setIf v).hostInput = s.hostInput := rfl
@[simp] theorem State.setIf_drawCount (s : State) (v : Byte) : (s.setIf v).drawCount = s.drawCount := rfl

/-! `State.request`. -/
@[simp] theorem State.request_cpu (s : State) (source : Fin 5) : (s.request source).cpu = s.cpu := rfl
@[simp] theorem State.request_irq (s : State) (source : Fin 5) : (s.request source).irq = { s.irq with iflag := s.irq.iflag ||| ((1 : Byte) <<< source.val) } := rfl
@[simp] theorem State.request_timer (s : State) (source : Fin 5) : (s.request source).timer = s.timer := rfl
@[simp] theorem State.request_ppu (s : State) (source : Fin 5) : (s.request source).ppu = s.ppu := rfl
@[simp] theorem State.request_mem (s : State) (source : Fin 5) : (s.request source).mem = s.mem := rfl
@[simp] theorem State.request_bootRom (s : State) (source : Fin 5) : (s.request source).bootRom = s.bootRom := rfl
@[simp] theorem State.request_bootOverlay (s : State) (source : Fin 5) : (s.request source).bootOverlay = s.bootOverlay := rfl
@[simp] theorem State.request_frame (s : State) (source : Fin 5) : (s.request source).frame = s.frame := rfl
@[simp] theorem State.request_params (s : State) (source : Fin 5) : (s.request source).params = s.params := rfl
@[simp] theorem State.request_serialInput (s : State) (source : Fin 5) : (s.request source).serialInput = s.serialInput := rfl
@[simp] theorem State.request_hostInput (s : State) (source : Fin 5) : (s.request source).hostInput = s.hostInput := rfl
@[simp] theorem State.request_drawCount (s : State) (source : Fin 5) : (s.request source).drawCount = s.drawCount := rfl

/-! `State.setPpu`. -/
@[simp] theorem State.setPpu_cpu (s : State) (p : Ppu) : (s.setPpu p).cpu = s.cpu := rfl
@[simp] theorem State.setPpu_irq (s : State) (p : Ppu) : (s.setPpu p).irq = s.irq := rfl
@[simp] theorem State.setPpu_timer (s : State) (p : Ppu) : (s.setPpu p).timer = s.timer := rfl
@[simp] theorem State.setPpu_ppu (s : State) (p : Ppu) : (s.setPpu p).ppu = p := rfl
@[simp] theorem State.setPpu_mem (s : State) (p : Ppu) : (s.setPpu p).mem = s.mem := rfl
@[simp] theorem State.setPpu_bootRom (s : State) (p : Ppu) : (s.setPpu p).bootRom = s.bootRom := rfl
@[simp] theorem State.setPpu_bootOverlay (s : State) (p : Ppu) : (s.setPpu p).bootOverlay = s.bootOverlay := rfl
@[simp] theorem State.setPpu_frame (s : State) (p : Ppu) : (s.setPpu p).frame = s.frame := rfl
@[simp] theorem State.setPpu_params (s : State) (p : Ppu) : (s.setPpu p).params = s.params := rfl
@[simp] theorem State.setPpu_serialInput (s : State) (p : Ppu) : (s.setPpu p).serialInput = s.serialInput := rfl
@[simp] theorem State.setPpu_hostInput (s : State) (p : Ppu) : (s.setPpu p).hostInput = s.hostInput := rfl
@[simp] theorem State.setPpu_drawCount (s : State) (p : Ppu) : (s.setPpu p).drawCount = s.drawCount := rfl

/-! Register operands. -/

@[simp] theorem State.setReg_cpu (s : State) (r : Reg8) (v : Byte) : (s.setReg r v).cpu = s.cpu.setReg r v := rfl
@[simp] theorem State.setReg_irq (s : State) (r : Reg8) (v : Byte) : (s.setReg r v).irq = s.irq := rfl
@[simp] theorem State.setReg_timer (s : State) (r : Reg8) (v : Byte) : (s.setReg r v).timer = s.timer := rfl
@[simp] theorem State.setReg_ppu (s : State) (r : Reg8) (v : Byte) : (s.setReg r v).ppu = s.ppu := rfl
@[simp] theorem State.setReg_mem (s : State) (r : Reg8) (v : Byte) : (s.setReg r v).mem = s.mem := rfl
@[simp] theorem State.setReg_bootRom (s : State) (r : Reg8) (v : Byte) : (s.setReg r v).bootRom = s.bootRom := rfl
@[simp] theorem State.setReg_bootOverlay (s : State) (r : Reg8) (v : Byte) : (s.setReg r v).bootOverlay = s.bootOverlay := rfl
@[simp] theorem State.setReg_frame (s : State) (r : Reg8) (v : Byte) : (s.setReg r v).frame = s.frame := rfl
@[simp] theorem State.setReg_params (s : State) (r : Reg8) (v : Byte) : (s.setReg r v).params = s.params := rfl
@[simp] theorem State.setReg_serialInput (s : State) (r : Reg8) (v : Byte) : (s.setReg r v).serialInput = s.serialInput := rfl
@[simp] theorem State.setReg_hostInput (s : State) (r : Reg8) (v : Byte) : (s.setReg r v).hostInput = s.hostInput := rfl
@[simp] theorem State.setReg_drawCount (s : State) (r : Reg8) (v : Byte) : (s.setReg r v).drawCount = s.drawCount := rfl
@[simp] theorem Cpu.setReg_f (c : Cpu) (r : Reg8) (v : Byte) : (c.setReg r v).f = c.f := by cases r <;> rfl
@[simp] theorem Cpu.setReg_sp (c : Cpu) (r : Reg8) (v : Byte) : (c.setReg r v).sp = c.sp := by cases r <;> rfl
@[simp] theorem Cpu.setReg_pc (c : Cpu) (r : Reg8) (v : Byte) : (c.setReg r v).pc = c.pc := by cases r <;> rfl
@[simp] theorem Cpu.setReg_halted (c : Cpu) (r : Reg8) (v : Byte) : (c.setReg r v).halted = c.halted := by cases r <;> rfl
@[simp] theorem Cpu.setReg_ime (c : Cpu) (r : Reg8) (v : Byte) : (c.setReg r v).ime = c.ime := by cases r <;> rfl
@[simp] theorem Cpu.setReg_cyclesRemaining (c : Cpu) (r : Reg8) (v : Byte) : (c.setReg r v).cyclesRemaining = c.cyclesRemaining := by cases r <;> rfl
@[simp] theorem Cpu.setReg_cbPrefixPending (c : Cpu) (r : Reg8) (v : Byte) : (c.setReg r v).cbPrefixPending = c.cbPrefixPending := by cases r <;> rfl

@[simp] theorem State.setPair_cpu (s : State) (p : Pair) (v : Word) : (s.setPair p v).cpu = s.cpu.setPair p v := rfl
@[simp] theorem State.setPair_irq (s : State) (p : Pair) (v : Word) : (s.setPair p v).irq = s.irq := rfl
@[simp] theorem State.setPair_timer (s : State) (p : Pair) (v : Word) : (s.setPair p v).timer = s.timer := rfl
@[simp] theorem State.setPair_ppu (s : State) (p : Pair) (v : Word) : (s.setPair p v).ppu = s.ppu := rfl
@[simp] theorem State.setPair_mem (s : State) (p : Pair) (v : Word) : (s.setPair p v).mem = s.mem := rfl
@[simp] theorem State.setPair_bootRom (s : State) (p : Pair) (v : Word) : (s.setPair p v).bootRom = s.bootRom := rfl
@[simp] theorem State.setPair_bootOverlay (s : State) (p : Pair) (v : Word) : (s.setPair p v).bootOverlay = s.bootOverlay := rfl
@[simp] theorem State.setPair_frame (s : State) (p : Pair) (v : Word) : (s.setPair p v).frame = s.frame := rfl
@[simp] theorem State.setPair_params (s : State) (p : Pair) (v : Word) : (s.setPair p v).params = s.params := rfl
@[simp] theorem State.setPair_serialInput (s : State) (p : Pair) (v : Word) : (s.setPair p v).serialInput = s.serialInput := rfl
@[simp] theorem State.setPair_hostInput (s : State) (p : Pair) (v : Word) : (s.setPair p v).hostInput = s.hostInput := rfl
@[simp] theorem State.setPair_drawCount (s : State) (p : Pair) (v : Word) : (s.setPair p v).drawCount = s.drawCount := rfl
@[simp] theorem Cpu.setPair_a (c : Cpu) (p : Pair) (v : Word) : (c.setPair p v).a = c.a := by cases p <;> rfl
@[simp] theorem Cpu.setPair_f (c : Cpu) (p : Pair) (v : Word) : (c.setPair p v).f = c.f := by cases p <;> rfl
@[simp] theorem Cpu.setPair_pc (c : Cpu) (p : Pair) (v : Word) : (c.setPair p v).pc = c.pc := by cases p <;> rfl
@[simp] theorem Cpu.setPair_halted (c : Cpu) (p : Pair) (v : Word) : (c.setPair p v).halted = c.halted := by cases p <;> rfl
@[simp] theorem Cpu.setPair_ime (c : Cpu) (p : Pair) (v : Word) : (c.setPair p v).ime = c.ime := by cases p <;> rfl
@[simp] theorem Cpu.setPair_cyclesRemaining (c : Cpu) (p : Pair) (v : Word) : (c.setPair p v).cyclesRemaining = c.cyclesRemaining := by cases p <;> rfl
@[simp] theorem Cpu.setPair_cbPrefixPending (c : Cpu) (p : Pair) (v : Word) : (c.setPair p v).cbPrefixPending = c.cbPrefixPending := by cases p <;> rfl

@[simp] theorem State.setStackPair_cpu (s : State) (p : StackPair) (v : Word) : (s.setStackPair p v).cpu = s.cpu.setStackPair p v := rfl
@[simp] theorem State.setStackPair_irq (s : State) (p : StackPair) (v : Word) : (s.setStackPair p v).irq = s.irq := rfl
@[simp] theorem State.setStackPair_timer (s : State) (p : StackPair) (v : Word) : (s.setStackPair p v).timer = s.timer := rfl
@[simp] theorem State.setStackPair_ppu (s : State) (p : StackPair) (v : Word) : (s.setStackPair p v).ppu = s.ppu := rfl
@[simp] theorem State.setStackPair_mem (s : State) (p : StackPair) (v : Word) : (s.setStackPair p v).mem = s.mem := rfl
@[simp] theorem State.setStackPair_bootRom (s : State) (p : StackPair) (v : Word) : (s.setStackPair p v).bootRom = s.bootRom := rfl
@[simp] theorem State.setStackPair_bootOverlay (s : State) (p : StackPair) (v : Word) : (s.setStackPair p v).bootOverlay = s.bootOverlay := rfl
@[simp] theorem State.setStackPair_frame (s : State) (p : StackPair) (v : Word) : (s.setStackPair p v).frame = s.frame := rfl
@[simp] theorem State.setStackPair_params (s : State) (p : StackPair) (v : Word) : (s.setStackPair p v).params = s.params := rfl
@[simp] theorem State.setStackPair_serialInput (s : State) (p : StackPair) (v : Word) : (s.setStackPair p v).serialInput = s.serialInput := rfl
@[simp] theorem State.setStackPair_hostInput (s : State) (p : StackPair) (v : Word) : (s.setStackPair p v).hostInput = s.hostInput := rfl
@[simp] theorem State.setStackPair_drawCount (s : State) (p : StackPair) (v : Word) : (s.setStackPair p v).drawCount = s.drawCount := rfl
@[simp] theorem Cpu.setStackPair_sp (c : Cpu) (p : StackPair) (v : Word) : (c.setStackPair p v).sp = c.sp := by cases p <;> rfl
@[simp] theorem Cpu.setStackPair_pc (c : Cpu) (p : StackPair) (v : Word) : (c.setStackPair p v).pc = c.pc := by cases p <;> rfl
@[simp] theorem Cpu.setStackPair_halted (c : Cpu) (p : StackPair) (v : Word) : (c.setStackPair p v).halted = c.halted := by cases p <;> rfl
@[simp] theorem Cpu.setStackPair_ime (c : Cpu) (p : StackPair) (v : Word) : (c.setStackPair p v).ime = c.ime := by cases p <;> rfl
@[simp] theorem Cpu.setStackPair_cyclesRemaining (c : Cpu) (p : StackPair) (v : Word) : (c.setStackPair p v).cyclesRemaining = c.cyclesRemaining := by cases p <;> rfl
@[simp] theorem Cpu.setStackPair_cbPrefixPending (c : Cpu) (p : StackPair) (v : Word) : (c.setStackPair p v).cbPrefixPending = c.cbPrefixPending := by cases p <;> rfl

end Sys2Proof.Machine
end

