-- ==== Sys2Proof/Laws/Memory.lean ====
section
/-! SUPPORT. The laws of memory accesses: what a write changes, what it leaves, and what reads back. -/

namespace Sys2Proof.Machine

/-! Regions as ranges of addresses. -/

theorem regionOf_rom {a : Word} (h : a.toNat < 0x8000) : regionOf a = .rom := by simp [regionOf, h]

theorem regionOf_eq_rom {a : Word} : regionOf a = .rom ↔ a.toNat < 0x8000 := by
  simp only [regionOf]; split_ifs <;> simp_all

/-- A key of the byte store and its region agree. -/
theorem storedAddress_cellKey {a : Word}
    (h : regionOf a = .vram ∨ regionOf a = .wram ∨ regionOf a = .echo ∨ regionOf a = .oam ∨ regionOf a = .hram) :
    storedAddress (cellKey a) = true := by
  simp only [cellKey, storedAddress]
  simp only [regionOf] at h ⊢
  split_ifs at h ⊢ <;> (simp_all; try omega)

theorem not_rom_cellKey {a : Word}
    (h : regionOf a = .vram ∨ regionOf a = .wram ∨ regionOf a = .echo ∨ regionOf a = .oam ∨ regionOf a = .hram) :
    0x8000 ≤ cellKey a := by
  simp only [cellKey]
  simp only [regionOf] at h ⊢
  split_ifs at h ⊢ <;> (simp_all; try omega)

/-! Fields of `storeCell`. -/

@[simp] theorem State.storeCell_cpu (s : State) (a : Word) (v : Byte) : (s.storeCell a v).cpu = s.cpu := rfl
@[simp] theorem State.storeCell_irq (s : State) (a : Word) (v : Byte) : (s.storeCell a v).irq = s.irq := rfl
@[simp] theorem State.storeCell_timer (s : State) (a : Word) (v : Byte) : (s.storeCell a v).timer = s.timer := rfl
@[simp] theorem State.storeCell_ppu (s : State) (a : Word) (v : Byte) : (s.storeCell a v).ppu = s.ppu := rfl
@[simp] theorem State.storeCell_mem (s : State) (a : Word) (v : Byte) :
    (s.storeCell a v).mem = writeByte s.mem (cellKey a) v := rfl
@[simp] theorem State.storeCell_bootRom (s : State) (a : Word) (v : Byte) : (s.storeCell a v).bootRom = s.bootRom := rfl
@[simp] theorem State.storeCell_bootOverlay (s : State) (a : Word) (v : Byte) :
    (s.storeCell a v).bootOverlay = s.bootOverlay := rfl

/-! What a write can do: the value of the region and register it names, and nothing else. -/

/-- The only things `IoWrite` changes: the timer's and the PPU's registers, IF and the boot overlay flag. -/
theorem ioWrite_frame (s : State) (a : Word) (v : Byte) :
    ioWrite s a v =
      { s with irq := (ioWrite s a v).irq, timer := (ioWrite s a v).timer, ppu := (ioWrite s a v).ppu,
               bootOverlay := (ioWrite s a v).bootOverlay } := by
  unfold ioWrite
  cases ioRegAt a with
  | none => rfl
  | some r => cases r <;> rfl

/-- The only things `MemWrite` changes. -/
theorem memWrite_frame (s : State) (a : Word) (v : Byte) :
    memWrite s a v =
      { s with irq := (memWrite s a v).irq, timer := (memWrite s a v).timer, ppu := (memWrite s a v).ppu,
               mem := (memWrite s a v).mem, bootOverlay := (memWrite s a v).bootOverlay } := by
  unfold memWrite
  cases regionOf a
  case io => exact ioWrite_frame s a v |>.trans (by rw [ioWrite_frame])
  case vram => cases s.ppu.mode.closesVram <;> rfl
  case oam => cases s.ppu.mode.closesOam <;> rfl
  all_goals rfl

@[simp] theorem memWrite_cpu (s : State) (a : Word) (v : Byte) : (memWrite s a v).cpu = s.cpu := by
  rw [memWrite_frame]
@[simp] theorem memWrite_bootRom (s : State) (a : Word) (v : Byte) : (memWrite s a v).bootRom = s.bootRom := by
  rw [memWrite_frame]
@[simp] theorem memWrite_frameBuffer (s : State) (a : Word) (v : Byte) : (memWrite s a v).frame = s.frame := by
  rw [memWrite_frame]
@[simp] theorem memWrite_params (s : State) (a : Word) (v : Byte) : (memWrite s a v).params = s.params := by
  rw [memWrite_frame]
@[simp] theorem memWrite_serialInput (s : State) (a : Word) (v : Byte) :
    (memWrite s a v).serialInput = s.serialInput := by rw [memWrite_frame]
@[simp] theorem memWrite_hostInput (s : State) (a : Word) (v : Byte) : (memWrite s a v).hostInput = s.hostInput := by
  rw [memWrite_frame]
@[simp] theorem memWrite_drawCount (s : State) (a : Word) (v : Byte) : (memWrite s a v).drawCount = s.drawCount := by
  rw [memWrite_frame]

/-- The PPU registers a program can write (20_memory.md R53), over a PPU whose other fields are `p`'s. -/
theorem ioWrite_ppu (s : State) (a : Word) (v : Byte) :
    (ioWrite s a v).ppu =
      { s.ppu with
        lcdc := (ioWrite s a v).ppu.lcdc, statEn := (ioWrite s a v).ppu.statEn, scy := (ioWrite s a v).ppu.scy
        scx := (ioWrite s a v).ppu.scx, lyc := (ioWrite s a v).ppu.lyc, bgp := (ioWrite s a v).ppu.bgp
        obp0 := (ioWrite s a v).ppu.obp0, obp1 := (ioWrite s a v).ppu.obp1, wy := (ioWrite s a v).ppu.wy
        wx := (ioWrite s a v).ppu.wx } := by
  unfold ioWrite
  cases ioRegAt a with
  | none => rfl
  | some r => cases r <;> rfl

theorem memWrite_ppu (s : State) (a : Word) (v : Byte) :
    (memWrite s a v).ppu =
      { s.ppu with
        lcdc := (memWrite s a v).ppu.lcdc, statEn := (memWrite s a v).ppu.statEn, scy := (memWrite s a v).ppu.scy
        scx := (memWrite s a v).ppu.scx, lyc := (memWrite s a v).ppu.lyc, bgp := (memWrite s a v).ppu.bgp
        obp0 := (memWrite s a v).ppu.obp0, obp1 := (memWrite s a v).ppu.obp1, wy := (memWrite s a v).ppu.wy
        wx := (memWrite s a v).ppu.wx } := by
  unfold memWrite
  cases regionOf a
  case io => exact ioWrite_ppu s a v
  case vram => cases s.ppu.mode.closesVram <;> rfl
  case oam => cases s.ppu.mode.closesOam <;> rfl
  all_goals rfl

@[simp] theorem memWrite_mode (s : State) (a : Word) (v : Byte) : (memWrite s a v).ppu.mode = s.ppu.mode := by
  rw [memWrite_ppu]
@[simp] theorem memWrite_ly (s : State) (a : Word) (v : Byte) : (memWrite s a v).ppu.ly = s.ppu.ly := by
  rw [memWrite_ppu]

/-- A write keeps where the PPU is in its line. -/
theorem memWrite_timing (s : State) (a : Word) (v : Byte) (rate : Nat) :
    (memWrite s a v).ppu.timing rate ↔ s.ppu.timing rate := by
  rw [memWrite_ppu]; exact Iff.rfl

theorem memWrite_bounds {s : State} (h : s.ppu.Bounds) (a : Word) (v : Byte) : (memWrite s a v).ppu.Bounds := by
  rw [memWrite_ppu]
  exact ⟨h.bgFifo, h.oamFifo, h.visible, h.sorted, h.drawX, h.discardLeft⟩

/-- A write leaves the divider alone or clears it. -/
theorem memWrite_fullDiv (s : State) (a : Word) (v : Byte) :
    (memWrite s a v).timer.fullDiv = s.timer.fullDiv ∨ (memWrite s a v).timer.fullDiv = 0 := by
  unfold memWrite
  cases regionOf a
  case io =>
    unfold ioWrite
    cases ioRegAt a with
    | none => exact .inl rfl
    | some r => cases r <;> first | exact .inl rfl | exact .inr rfl
  case vram => cases s.ppu.mode.closesVram <;> exact .inl rfl
  case oam => cases s.ppu.mode.closesOam <;> exact .inl rfl
  all_goals exact .inl rfl

/-- The byte store after a write: the old one, or the old one with the byte stored at the address's own key. -/
theorem memWrite_mem (s : State) (a : Word) (v : Byte) :
    (memWrite s a v).mem = s.mem ∨
      (storedAddress (cellKey a) = true ∧ 0x8000 ≤ cellKey a ∧ (memWrite s a v).mem = writeByte s.mem (cellKey a) v) := by
  unfold memWrite
  cases hr : regionOf a
  case io =>
    left
    show (ioWrite s a v).mem = s.mem
    rw [ioWrite_frame]
  case vram =>
    cases s.ppu.mode.closesVram
    · exact .inr ⟨storedAddress_cellKey (by simp [hr]), not_rom_cellKey (by simp [hr]), rfl⟩
    · exact .inl rfl
  case oam =>
    cases s.ppu.mode.closesOam
    · exact .inr ⟨storedAddress_cellKey (by simp [hr]), not_rom_cellKey (by simp [hr]), rfl⟩
    · exact .inl rfl
  case wram => exact .inr ⟨storedAddress_cellKey (by simp [hr]), not_rom_cellKey (by simp [hr]), rfl⟩
  case echo => exact .inr ⟨storedAddress_cellKey (by simp [hr]), not_rom_cellKey (by simp [hr]), rfl⟩
  case hram => exact .inr ⟨storedAddress_cellKey (by simp [hr]), not_rom_cellKey (by simp [hr]), rfl⟩
  all_goals exact .inl rfl

/-- A write keeps the canonical form of memory. -/
theorem memWrite_wf {s : State} (h : s.mem.wf) (a : Word) (v : Byte) : (memWrite s a v).mem.wf := by
  rcases memWrite_mem s a v with he | ⟨hk, _, he⟩ <;> rw [he]
  · exact h
  · exact wfCells_writeCells h hk v

theorem readByte_writeByte (m : Memory) (k k' : Nat) (v : Byte) :
    readByte (writeByte m k v) k' = if k' = k then v else readByte m k' := readCells_writeCells _ _ _ _

/-- A write changes no byte of ROM. -/
theorem readByte_memWrite_rom (s : State) (a : Word) (v : Byte) {k : Nat} (hk : k < 0x8000) :
    readByte (memWrite s a v).mem k = readByte s.mem k := by
  rcases memWrite_mem s a v with he | ⟨_, hlo, he⟩ <;> rw [he]
  rw [readByte_writeByte, if_neg (by omega)]

/-! Reads. -/

/-- A read looks at nothing of the CPU. -/
@[simp] theorem memRead_setCpu (acc : Access) (s : State) (c : Cpu) (a : Word) :
    memRead acc (s.setCpu c) a = memRead acc s a := rfl

@[simp] theorem memRead16_setCpu (acc : Access) (s : State) (c : Cpu) (a : Word) :
    memRead16 acc (s.setCpu c) a = memRead16 acc s a := rfl

/-- A write looks at nothing of the CPU. -/
theorem memWrite_setCpu (s : State) (c : Cpu) (a : Word) (v : Byte) :
    memWrite (s.setCpu c) a v = (memWrite s a v).setCpu c := by
  unfold memWrite
  cases regionOf a
  case io =>
    show ioWrite (s.setCpu c) a v = (ioWrite s a v).setCpu c
    unfold ioWrite
    cases ioRegAt a with
    | none => rfl
    | some r => cases r <;> rfl
  case vram =>
    show (if s.ppu.mode.closesVram then _ else _) = State.setCpu (if s.ppu.mode.closesVram then _ else _) c
    cases s.ppu.mode.closesVram <;> rfl
  case oam =>
    show (if s.ppu.mode.closesOam then _ else _) = State.setCpu (if s.ppu.mode.closesOam then _ else _) c
    cases s.ppu.mode.closesOam <;> rfl
  all_goals rfl

theorem memWrite16_setCpu (s : State) (c : Cpu) (a v : Word) :
    memWrite16 (s.setCpu c) a v = (memWrite16 s a v).setCpu c := by simp only [memWrite16, memWrite_setCpu]

@[simp] theorem memWrite16_cpu (s : State) (a v : Word) : (memWrite16 s a v).cpu = s.cpu := by simp [memWrite16]

theorem plainByte_memWrite (s : State) (a b : Word) (v : Byte) : plainByte (memWrite s b v) a = plainByte s a := by
  simp [plainByte]

/-- At a plain address a read is the byte under the address's key. -/
theorem memRead_plain (acc : Access) {s : State} {a : Word} (h : plainByte s a = true) :
    memRead acc s a = readByte s.mem (cellKey a) := by
  unfold plainByte at h
  unfold memRead
  cases hr : regionOf a <;> rw [hr] at h <;> simp_all

theorem memWrite_plain {s : State} {a : Word} (h : plainByte s a = true) (v : Byte) :
    memWrite s a v = s.storeCell a v := by
  unfold plainByte at h
  unfold memWrite
  cases hr : regionOf a <;> rw [hr] at h <;> simp_all

/-- What is written at a plain address is what is read there. -/
theorem memRead_memWrite_same (acc : Access) {s : State} {a : Word} (h : plainByte s a = true) (v : Byte) :
    memRead acc (memWrite s a v) a = v := by
  rw [memRead_plain acc (by rw [plainByte_memWrite]; exact h), memWrite_plain h, State.storeCell_mem,
    readByte_writeByte, if_pos rfl]

/-- Two addresses that are not one byte's. -/
theorem mayChange_false {a b : Word} (h : mayChange a b = false) :
    cellKey a ≠ cellKey b ∧ (a = 0xFF45 → b ≠ 0xFF41) ∧ (a = 0xFF50 → ¬b.toNat < 0x100) := by
  simp only [mayChange, resolved, Bool.or_eq_false_iff, beq_eq_false_iff_ne, ne_eq, Bool.and_eq_false_iff,
    decide_eq_false_iff_not] at h
  tauto

/-- The addresses of a region. -/
def Region.bounds : Region → Nat × Nat
  | .rom => (0, 0x8000)
  | .vram => (0x8000, 0xA000)
  | .extRam => (0xA000, 0xC000)
  | .wram => (0xC000, 0xE000)
  | .echo => (0xE000, 0xFE00)
  | .oam => (0xFE00, 0xFEA0)
  | .gap => (0xFEA0, 0xFF00)
  | .io => (0xFF00, 0xFF80)
  | .hram => (0xFF80, 0xFFFF)
  | .ie => (0xFFFF, 0x10000)

/-- An address lies in its region. -/
theorem regionOf_bounds (a : Word) : (regionOf a).bounds.1 ≤ a.toNat ∧ a.toNat < (regionOf a).bounds.2 := by
  have := a.isLt
  simp only [regionOf]
  split_ifs <;> simp only [Region.bounds] <;> omega

/-- The region of an address is the one whose bounds it lies in. -/
theorem regionOf_eq {a : Word} {r : Region} (h : r.bounds.1 ≤ a.toNat ∧ a.toNat < r.bounds.2) : regionOf a = r := by
  have h' := regionOf_bounds a
  cases hr : regionOf a <;> rw [hr] at h' <;> cases r <;> simp only [Region.bounds] at h h' <;>
    first | (exfalso; omega) | rfl

theorem cellKey_eq (a : Word) :
    cellKey a = if 0xE000 ≤ a.toNat ∧ a.toNat < 0xFE00 then a.toNat - 0x2000 else a.toNat := by
  have h := regionOf_bounds a
  unfold cellKey
  cases hr : regionOf a <;> rw [hr] at h <;> simp only [Region.bounds] at h ⊢ <;>
    split_ifs <;> omega

theorem plainByte_range {s : State} {a : Word} (h : plainByte s a = true) :
    0x8000 ≤ a.toNat ∧ ¬(0xFF00 ≤ a.toNat ∧ a.toNat < 0xFF80) ∧ a.toNat ≠ 0xFFFF := by
  have hb := regionOf_bounds a
  unfold plainByte at h
  cases hr : regionOf a <;> rw [hr] at h hb <;> simp only [Region.bounds] at hb <;>
    first | exact absurd h Bool.false_ne_true | omega

theorem cellKey_succ_ne {s : State} {a : Word} (h : plainByte s a = true) : cellKey (a + 1) ≠ cellKey a := by
  have hlt := a.isLt
  have ha := plainByte_range h
  have hs : (a + 1).toNat = a.toNat + 1 := by
    rw [BitVec.toNat_add]
    show (a.toNat + 1) % 65536 = _
    omega
  rw [cellKey_eq, cellKey_eq, hs]
  split_ifs <;> omega

/-- Two bytes of a word in plain memory are two different bytes. -/
theorem mayChange_succ {s : State} {a : Word} (h : plainByte s a = true) (h' : plainByte s (a + 1) = true) :
    mayChange (a + 1) a = false ∧ mayChange a (a + 1) = false := by
  have hk := cellKey_succ_ne h
  have ha := plainByte_range h
  have ha' := plainByte_range h'
  have ne (x : Word) (hx : 0xFF00 ≤ x.toNat ∧ x.toNat < 0xFF80) : (a == x) = false ∧ (a + 1 == x) = false :=
    ⟨beq_false_of_ne fun e => ha.2.1 (e ▸ hx), beq_false_of_ne fun e => ha'.2.1 (e ▸ hx)⟩
  have h1 := ne 0xFF45 (by decide)
  have h2 := ne 0xFF50 (by decide)
  unfold mayChange resolved
  rw [h1.1, h1.2, h2.1, h2.2, beq_false_of_ne hk, beq_false_of_ne (Ne.symm hk)]
  exact ⟨rfl, rfl⟩

/-- The address of an I/O register (20_memory.md R52, R53). -/
def IoReg.address : IoReg → Nat
  | .div => 0xFF04
  | .tima => 0xFF05
  | .tma => 0xFF06
  | .tac => 0xFF07
  | .iflag => 0xFF0F
  | .lcdc => 0xFF40
  | .stat => 0xFF41
  | .scy => 0xFF42
  | .scx => 0xFF43
  | .ly => 0xFF44
  | .lyc => 0xFF45
  | .bgp => 0xFF47
  | .obp0 => 0xFF48
  | .obp1 => 0xFF49
  | .wy => 0xFF4A
  | .wx => 0xFF4B
  | .bootOff => 0xFF50

theorem mem_of_lookup {α : Type} {l : List (Nat × α)} {k : Nat} {v : α} (h : l.lookup k = some v) : (k, v) ∈ l := by
  induction l with
  | nil => simp at h
  | cons c rest ih =>
    obtain ⟨k', v'⟩ := c
    simp only [List.lookup] at h
    split at h
    · rename_i hk
      have : k = k' := by simpa using hk
      simp_all
    · exact List.mem_cons_of_mem _ (ih h)

theorem ioRegAt_address {a : Word} {r : IoReg} (h : ioRegAt a = some r) : a.toNat = r.address := by
  have all : ∀ p ∈ ioTable, p.1 = p.2.address := by decide
  exact all _ (mem_of_lookup h)

theorem ioRegAt_injective {a b : Word} {r : IoReg} (ha : ioRegAt a = some r) (hb : ioRegAt b = some r) : a = b :=
  BitVec.eq_of_toNat_eq ((ioRegAt_address ha).trans (ioRegAt_address hb).symm)

/-- A write to the I/O page changes no other register's read, but STAT's where it writes LYC. -/
theorem ioRead_ioWrite_other (acc : Access) (s : State) {a b : Word} (v : Byte) (hne : a ≠ b)
    (hlyc : ioRegAt a = some .lyc → ioRegAt b ≠ some .stat) :
    ioRead acc (ioWrite s a v) b = ioRead acc s b := by
  unfold ioWrite
  cases ha : ioRegAt a with
  | none => rfl
  | some r =>
    unfold ioRead
    cases hb : ioRegAt b with
    | none => cases r <;> rfl
    | some r' =>
      have hr : r ≠ r' := fun e => hne (ioRegAt_injective ha (e ▸ hb))
      have hs : ¬(r = .lyc ∧ r' = .stat) := fun e => hlyc (by rw [ha, e.1]) (by rw [hb, e.2])
      cases r <;> cases r' <;> first | rfl | exact absurd rfl hr | exact absurd ⟨rfl, rfl⟩ hs

/-- The I/O page keeps nothing in the byte store. -/
@[simp] theorem ioWrite_mem (s : State) (a : Word) (v : Byte) : (ioWrite s a v).mem = s.mem := by rw [ioWrite_frame]

theorem memRead_storeCell_other (acc : Access) (s : State) {a b : Word} (v : Byte) (hne : cellKey a ≠ cellKey b)
    (hlo : 0x8000 ≤ cellKey a) : memRead acc (s.storeCell a v) b = memRead acc s b := by
  have hcell : readByte (writeByte s.mem (cellKey a) v) (cellKey b) = readByte s.mem (cellKey b) := by
    rw [readByte_writeByte, if_neg (Ne.symm hne)]
  unfold memRead
  cases hr : regionOf b
  case rom =>
    have hb : b.toNat < 0x8000 := regionOf_eq_rom.mp hr
    have hrom : readByte (writeByte s.mem (cellKey a) v) b.toNat = readByte s.mem b.toNat := by
      rw [readByte_writeByte, if_neg (by omega)]
    simp only [romRead, State.storeCell_bootRom, State.storeCell_bootOverlay, State.storeCell_mem, hrom]
  case vram => simp only [State.storeCell_ppu, State.storeCell_mem, hcell]
  case oam => simp only [State.storeCell_ppu, State.storeCell_mem, hcell]
  case wram => simp only [State.storeCell_mem, hcell]
  case echo => simp only [State.storeCell_mem, hcell]
  case hram => simp only [State.storeCell_mem, hcell]
  all_goals rfl

theorem memRead_ioWrite_other (acc : Access) (s : State) {a b : Word} (v : Byte)
    (h : mayChange a b = false) : memRead acc (ioWrite s a v) b = memRead acc s b := by
  obtain ⟨hne, hlyc, hboot⟩ := mayChange_false h
  have hmode : (ioWrite s a v).ppu.mode = s.ppu.mode := by rw [ioWrite_ppu]
  have hie : regionOf b = .ie → (ioWrite s a v).irq.ie = s.irq.ie := fun _ => by
    unfold ioWrite
    cases ioRegAt a with
    | none => rfl
    | some r => cases r <;> rfl
  have hbr : (ioWrite s a v).bootRom = s.bootRom := by rw [ioWrite_frame]
  have hov : (ioWrite s a v).bootOverlay = s.bootOverlay ∨ ¬b.toNat < 0x100 := by
    unfold ioWrite
    cases hr : ioRegAt a with
    | none => exact .inl rfl
    | some r =>
      cases r
      case bootOff => exact .inr (hboot (BitVec.eq_of_toNat_eq (ioRegAt_address hr)))
      all_goals exact .inl rfl
  unfold memRead
  cases hr : regionOf b
  case rom =>
    simp only [romRead, hbr, ioWrite_mem]
    rcases hov with e | e
    · simp only [e]
    · simp only [e, and_false, if_false]
  case io =>
    refine ioRead_ioWrite_other acc s v (fun e => hne (by rw [e])) (fun h1 h2 => ?_)
    exact hlyc (BitVec.eq_of_toNat_eq (ioRegAt_address h1)) (BitVec.eq_of_toNat_eq (ioRegAt_address h2))
  case ie => exact hie hr
  all_goals simp only [hmode, ioWrite_mem]

/-- A write changes no other address's read. -/
theorem memRead_memWrite_other (acc : Access) (s : State) {a b : Word} (v : Byte) (h : mayChange a b = false) :
    memRead acc (memWrite s a v) b = memRead acc s b := by
  have hne := (mayChange_false h).1
  unfold memWrite
  cases hr : regionOf a
  case io => exact memRead_ioWrite_other acc s v h
  case vram =>
    cases s.ppu.mode.closesVram
    · exact memRead_storeCell_other acc s v hne (not_rom_cellKey (by simp [hr]))
    · rfl
  case oam =>
    cases s.ppu.mode.closesOam
    · exact memRead_storeCell_other acc s v hne (not_rom_cellKey (by simp [hr]))
    · rfl
  case wram => exact memRead_storeCell_other acc s v hne (not_rom_cellKey (by simp [hr]))
  case echo => exact memRead_storeCell_other acc s v hne (not_rom_cellKey (by simp [hr]))
  case hram => exact memRead_storeCell_other acc s v hne (not_rom_cellKey (by simp [hr]))
  case ie =>
    have hb : regionOf b ≠ .ie := by
      intro hb
      refine hne (congrArg cellKey (BitVec.eq_of_toNat_eq ?_))
      have ha := a.isLt
      have hb' := b.isLt
      have edge : ∀ x : Word, regionOf x = .ie → x.toNat = 0xFFFF := by
        intro x hx
        have := x.isLt
        simp only [regionOf] at hx
        split_ifs at hx
        omega
      rw [edge a hr, edge b hb]
    show memRead acc { s with irq := { s.irq with ie := v } } b = memRead acc s b
    unfold memRead
    cases hrb : regionOf b
    case ie => exact absurd hrb hb
    case io =>
      show ioRead acc _ b = ioRead acc s b
      unfold ioRead
      cases ioRegAt b with
      | none => rfl
      | some r => cases r <;> rfl
    all_goals rfl
  all_goals rfl

end Sys2Proof.Machine
end

