-- ==== Sys2Proof/Laws/Exec.lean ====
section
/-! SUPPORT. What every instruction does to the state: it stores bytes at the addresses `storedAt` names and rewrites the
CPU, and nothing else; or it raises `DecodeFault` at its own PC. -/

namespace Sys2Proof.Machine

/-! The addresses each form stores to. -/

@[simp] theorem storedAt_ldRegReg (r : Reg8) (r' : Reg8) (s : State) : storedAt (Instr.ldRegReg r r') s = [] := by
  cases r <;> cases r' <;> rfl
@[simp] theorem storedAt_ldRegImm (r : Reg8) (n : Byte) (s : State) : storedAt (Instr.ldRegImm r n) s = [] := by
  cases r <;> rfl
@[simp] theorem storedAt_ldRegHl (r : Reg8) (s : State) : storedAt (Instr.ldRegHl r) s = [] := by
  cases r <;> rfl
@[simp] theorem storedAt_ldHlReg (r : Reg8) (s : State) : storedAt (Instr.ldHlReg r) s = [s.cpu.hl] := by
  cases r <;> rfl
@[simp] theorem storedAt_ldPairImm (p : Pair) (nn : Word) (s : State) : storedAt (Instr.ldPairImm p nn) s = [] := by
  cases p <;> rfl
@[simp] theorem storedAt_pushPair (p : StackPair) (s : State) : storedAt (Instr.pushPair p) s = wordAt (s.cpu.sp - 2) := by
  cases p <;> rfl
@[simp] theorem storedAt_popPair (p : StackPair) (s : State) : storedAt (Instr.popPair p) s = [] := by
  cases p <;> rfl
@[simp] theorem storedAt_aluReg (op : AluOp) (r : Reg8) (s : State) : storedAt (Instr.aluReg op r) s = [] := by
  cases op <;> cases r <;> rfl
@[simp] theorem storedAt_aluHl (op : AluOp) (s : State) : storedAt (Instr.aluHl op) s = [] := by
  cases op <;> rfl
@[simp] theorem storedAt_aluImm (op : AluOp) (n : Byte) (s : State) : storedAt (Instr.aluImm op n) s = [] := by
  cases op <;> rfl
@[simp] theorem storedAt_incReg (r : Reg8) (s : State) : storedAt (Instr.incReg r) s = [] := by
  cases r <;> rfl
@[simp] theorem storedAt_decReg (r : Reg8) (s : State) : storedAt (Instr.decReg r) s = [] := by
  cases r <;> rfl
@[simp] theorem storedAt_addHlPair (p : Pair) (s : State) : storedAt (Instr.addHlPair p) s = [] := by
  cases p <;> rfl
@[simp] theorem storedAt_incPair (p : Pair) (s : State) : storedAt (Instr.incPair p) s = [] := by
  cases p <;> rfl
@[simp] theorem storedAt_decPair (p : Pair) (s : State) : storedAt (Instr.decPair p) s = [] := by
  cases p <;> rfl
@[simp] theorem storedAt_rotReg (op : RotOp) (r : Reg8) (s : State) : storedAt (Instr.rotReg op r) s = [] := by
  cases op <;> cases r <;> rfl
@[simp] theorem storedAt_rotHl (op : RotOp) (s : State) : storedAt (Instr.rotHl op) s = [s.cpu.hl] := by
  cases op <;> rfl
@[simp] theorem storedAt_bitReg (b : Fin 8) (r : Reg8) (s : State) : storedAt (Instr.bitReg b r) s = [] := by
  fin_cases b <;> cases r <;> rfl
@[simp] theorem storedAt_bitHl (b : Fin 8) (s : State) : storedAt (Instr.bitHl b) s = [] := by
  fin_cases b <;> rfl
@[simp] theorem storedAt_resReg (b : Fin 8) (r : Reg8) (s : State) : storedAt (Instr.resReg b r) s = [] := by
  fin_cases b <;> cases r <;> rfl
@[simp] theorem storedAt_resHl (b : Fin 8) (s : State) : storedAt (Instr.resHl b) s = [s.cpu.hl] := by
  fin_cases b <;> rfl
@[simp] theorem storedAt_setBitReg (b : Fin 8) (r : Reg8) (s : State) : storedAt (Instr.setBitReg b r) s = [] := by
  fin_cases b <;> cases r <;> rfl
@[simp] theorem storedAt_setBitHl (b : Fin 8) (s : State) : storedAt (Instr.setBitHl b) s = [s.cpu.hl] := by
  fin_cases b <;> rfl
@[simp] theorem storedAt_jpCc (cc : Cond) (nn : Word) (s : State) : storedAt (Instr.jpCc cc nn) s = [] := by
  cases cc <;> rfl
@[simp] theorem storedAt_jrCc (cc : Cond) (e : Byte) (s : State) : storedAt (Instr.jrCc cc e) s = [] := by
  cases cc <;> rfl
@[simp] theorem storedAt_callCc (cc : Cond) (nn : Word) (s : State) : storedAt (Instr.callCc cc nn) s = if s.cpu.holds cc then wordAt (s.cpu.sp - 2) else [] := by
  cases cc <;> rfl
@[simp] theorem storedAt_retCc (cc : Cond) (s : State) : storedAt (Instr.retCc cc) s = [] := by
  cases cc <;> rfl
@[simp] theorem storedAt_rst (b : Fin 8) (s : State) : storedAt (Instr.rst b) s = wordAt (s.cpu.sp - 2) := by
  fin_cases b <;> rfl
@[simp] theorem storedAt_unassigned (u : Unassigned) (s : State) : storedAt (Instr.unassigned u) s = [] := by
  cases u <;> rfl
@[simp] theorem storedAt_nop (s : State) : storedAt .nop s = [] := by
  rfl
@[simp] theorem storedAt_ld_atBc_a (s : State) : storedAt .ld_atBc_a s = [s.cpu.bc] := by
  rfl
@[simp] theorem storedAt_rlca (s : State) : storedAt .rlca s = [] := by
  rfl
@[simp] theorem storedAt_ld_atA16_sp (nn : Word) (s : State) : storedAt (.ld_atA16_sp nn) s = wordAt nn := by
  rfl
@[simp] theorem storedAt_ld_a_atBc (s : State) : storedAt .ld_a_atBc s = [] := by
  rfl
@[simp] theorem storedAt_rrca (s : State) : storedAt .rrca s = [] := by
  rfl
@[simp] theorem storedAt_stop (n : Byte) (s : State) : storedAt (.stop n) s = [] := by
  rfl
@[simp] theorem storedAt_ld_atDe_a (s : State) : storedAt .ld_atDe_a s = [s.cpu.de] := by
  rfl
@[simp] theorem storedAt_rla (s : State) : storedAt .rla s = [] := by
  rfl
@[simp] theorem storedAt_jr_e (e : Byte) (s : State) : storedAt (.jr_e e) s = [] := by
  rfl
@[simp] theorem storedAt_ld_a_atDe (s : State) : storedAt .ld_a_atDe s = [] := by
  rfl
@[simp] theorem storedAt_rra (s : State) : storedAt .rra s = [] := by
  rfl
@[simp] theorem storedAt_ld_atHlInc_a (s : State) : storedAt .ld_atHlInc_a s = [s.cpu.hl] := by
  rfl
@[simp] theorem storedAt_daa (s : State) : storedAt .daa s = [] := by
  rfl
@[simp] theorem storedAt_ld_a_atHlInc (s : State) : storedAt .ld_a_atHlInc s = [] := by
  rfl
@[simp] theorem storedAt_cpl (s : State) : storedAt .cpl s = [] := by
  rfl
@[simp] theorem storedAt_ld_atHlDec_a (s : State) : storedAt .ld_atHlDec_a s = [s.cpu.hl] := by
  rfl
@[simp] theorem storedAt_inc_atHl (s : State) : storedAt .inc_atHl s = [s.cpu.hl] := by
  rfl
@[simp] theorem storedAt_dec_atHl (s : State) : storedAt .dec_atHl s = [s.cpu.hl] := by
  rfl
@[simp] theorem storedAt_ld_atHl_d8 (n : Byte) (s : State) : storedAt (.ld_atHl_d8 n) s = [s.cpu.hl] := by
  rfl
@[simp] theorem storedAt_scf (s : State) : storedAt .scf s = [] := by
  rfl
@[simp] theorem storedAt_ld_a_atHlDec (s : State) : storedAt .ld_a_atHlDec s = [] := by
  rfl
@[simp] theorem storedAt_ccf (s : State) : storedAt .ccf s = [] := by
  rfl
@[simp] theorem storedAt_halt (s : State) : storedAt .halt s = [] := by
  rfl
@[simp] theorem storedAt_jp_a16 (nn : Word) (s : State) : storedAt (.jp_a16 nn) s = [] := by
  rfl
@[simp] theorem storedAt_ret (s : State) : storedAt .ret s = [] := by
  rfl
@[simp] theorem storedAt_prefix_cb (s : State) : storedAt .prefix_cb s = [] := by
  rfl
@[simp] theorem storedAt_call_a16 (nn : Word) (s : State) : storedAt (.call_a16 nn) s = wordAt (s.cpu.sp - 2) := by
  rfl
@[simp] theorem storedAt_reti (s : State) : storedAt .reti s = [] := by
  rfl
@[simp] theorem storedAt_ldh_atA8_a (n : Byte) (s : State) : storedAt (.ldh_atA8_a n) s = [highPage n] := by
  rfl
@[simp] theorem storedAt_ld_atC_a (s : State) : storedAt .ld_atC_a s = [highPage s.cpu.c] := by
  rfl
@[simp] theorem storedAt_add_sp_e (e : Byte) (s : State) : storedAt (.add_sp_e e) s = [] := by
  rfl
@[simp] theorem storedAt_jp_hl (s : State) : storedAt .jp_hl s = [] := by
  rfl
@[simp] theorem storedAt_ld_atA16_a (nn : Word) (s : State) : storedAt (.ld_atA16_a nn) s = [nn] := by
  rfl
@[simp] theorem storedAt_ldh_a_atA8 (n : Byte) (s : State) : storedAt (.ldh_a_atA8 n) s = [] := by
  rfl
@[simp] theorem storedAt_ld_a_atC (s : State) : storedAt .ld_a_atC s = [] := by
  rfl
@[simp] theorem storedAt_di (s : State) : storedAt .di s = [] := by
  rfl
@[simp] theorem storedAt_ld_hl_sp_e (e : Byte) (s : State) : storedAt (.ld_hl_sp_e e) s = [] := by
  rfl
@[simp] theorem storedAt_ld_sp_hl (s : State) : storedAt .ld_sp_hl s = [] := by
  rfl
@[simp] theorem storedAt_ld_a_atA16 (nn : Word) (s : State) : storedAt (.ld_a_atA16 nn) s = [] := by
  rfl
@[simp] theorem storedAt_ei (s : State) : storedAt .ei s = [] := by
  rfl

/-- Byte stores in order. -/
def storeBytes (s : State) (ws : List (Word × Byte)) : State := ws.foldl (fun t w => memWrite t w.1 w.2) s

@[simp] theorem storeBytes_nil (s : State) : storeBytes s [] = s := rfl
@[simp] theorem storeBytes_cons (s : State) (w : Word × Byte) (ws : List (Word × Byte)) :
    storeBytes s (w :: ws) = storeBytes (memWrite s w.1 w.2) ws := rfl

/-- The shape of an instruction's effect. -/
def Effect (i : Instr) (s : State) : Prop :=
  ∃ ws c, ws.map Prod.fst = storedAt i s ∧ exec i s = .next ((storeBytes s ws).setCpu c)

theorem Effect.stored0 {i : Instr} {s : State} (c : Cpu) (h : exec i s = .next (s.setCpu c)) (hs : storedAt i s = []) :
    Effect i s := ⟨[], c, by simp [hs], h⟩

theorem Effect.stored1 {i : Instr} {s : State} (a : Word) (v : Byte) (c : Cpu)
    (h : exec i s = .next ((memWrite s a v).setCpu c)) (hs : storedAt i s = [a]) : Effect i s :=
  ⟨[(a, v)], c, by simp [hs], h⟩

theorem Effect.stored2 {i : Instr} {s : State} (a : Word) (v : Word) (c : Cpu)
    (h : exec i s = .next ((memWrite16 s a v).setCpu c)) (hs : storedAt i s = wordAt a) : Effect i s :=
  ⟨[(a, loByte v), (a + 1, hiByte v)], c, by simp [hs, wordAt], h⟩

theorem push16_eq (s : State) (v : Word) :
    s.push16 v = (memWrite16 s (s.cpu.sp - 2) v).setCpu { s.cpu with sp := s.cpu.sp - 2 } := by
  show memWrite16 (s.setCpu { s.cpu with sp := s.cpu.sp - 2 }) _ _ = _
  rw [memWrite16_setCpu]

theorem goTo_eq (s : State) (t : Word) (n : Byte) :
    s.goTo t n = s.setCpu { s.cpu with pc := t, cyclesRemaining := n } := rfl

@[simp] theorem setCpu_setCpu (s : State) (c c' : Cpu) : (s.setCpu c).setCpu c' = s.setCpu c' := rfl

/-- Every instruction raises `DecodeFault` at its own PC, or has the shape of `Effect`. -/
theorem exec_shape (i : Instr) (s : State) :
    (∃ op, exec i s = .fault (.decodeFault op s.cpu.pc)) ∨ Effect i s := by
  induction i using Instr.forms with
  | ldRegReg r r' => exact .inr (.stored0 _ (exec_ldRegReg r r' s) (storedAt_ldRegReg r r' s))
  | ldRegImm r n => exact .inr (.stored0 _ (exec_ldRegImm r n s) (storedAt_ldRegImm r n s))
  | ldRegHl r => exact .inr (.stored0 _ (exec_ldRegHl r s) (storedAt_ldRegHl r s))
  | ldHlReg r => exact .inr (.stored1 _ _ _ (exec_ldHlReg r s) (storedAt_ldHlReg r s))
  | ldPairImm p nn => exact .inr (.stored0 _ (exec_ldPairImm p nn s) (storedAt_ldPairImm p nn s))
  | pushPair p => exact .inr (.stored2 _ _ _ (by rw [exec_pushPair]; unfold pushPair; rw [push16_eq]; rfl) (storedAt_pushPair p s))
  | popPair p => exact .inr (.stored0 _ (exec_popPair p s) (storedAt_popPair p s))
  | aluReg op r => exact .inr (.stored0 _ (exec_aluReg op r s) (storedAt_aluReg op r s))
  | aluHl op => exact .inr (.stored0 _ (exec_aluHl op s) (storedAt_aluHl op s))
  | aluImm op n => exact .inr (.stored0 _ (exec_aluImm op n s) (storedAt_aluImm op n s))
  | incReg r => exact .inr (.stored0 _ (exec_incReg r s) (storedAt_incReg r s))
  | decReg r => exact .inr (.stored0 _ (exec_decReg r s) (storedAt_decReg r s))
  | addHlPair p => exact .inr (.stored0 _ (exec_addHlPair p s) (storedAt_addHlPair p s))
  | incPair p => exact .inr (.stored0 _ (exec_incPair p s) (storedAt_incPair p s))
  | decPair p => exact .inr (.stored0 _ (exec_decPair p s) (storedAt_decPair p s))
  | rotReg op r => exact .inr (.stored0 _ (exec_rotReg op r s) (storedAt_rotReg op r s))
  | rotHl op => exact .inr (.stored1 _ _ _ (exec_rotHl op s) (storedAt_rotHl op s))
  | bitReg b r => exact .inr (.stored0 _ (exec_bitReg b r s) (storedAt_bitReg b r s))
  | bitHl b => exact .inr (.stored0 _ (exec_bitHl b s) (storedAt_bitHl b s))
  | resReg b r => exact .inr (.stored0 _ (exec_resReg b r s) (storedAt_resReg b r s))
  | resHl b => exact .inr (.stored1 _ _ _ (exec_resHl b s) (storedAt_resHl b s))
  | setBitReg b r => exact .inr (.stored0 _ (exec_setBitReg b r s) (storedAt_setBitReg b r s))
  | setBitHl b => exact .inr (.stored1 _ _ _ (exec_setBitHl b s) (storedAt_setBitHl b s))
  | jpCc cc nn =>
    right
    cases hc : s.cpu.holds cc
    · exact .stored0 _ (by rw [exec_jpCc]; unfold jumpIf; rw [hc]; rfl) (by rw [storedAt_jpCc])
    · exact .stored0 _ (by rw [exec_jpCc]; unfold jumpIf; rw [hc]; rfl) (by rw [storedAt_jpCc])
  | jrCc cc e =>
    right
    cases hc : s.cpu.holds cc
    · exact .stored0 _ (by rw [exec_jrCc]; unfold jumpRelIf; rw [hc]; rfl) (by rw [storedAt_jrCc])
    · exact .stored0 _ (by rw [exec_jrCc]; unfold jumpRelIf; rw [hc]; rfl) (by rw [storedAt_jrCc])
  | callCc cc nn =>
    right
    cases hc : s.cpu.holds cc
    · exact .stored0 _ (by rw [exec_callCc]; unfold callIf; rw [hc]; rfl) (by rw [storedAt_callCc, hc]; rfl)
    · exact .stored2 _ _ _ (by rw [exec_callCc]; unfold callIf; rw [hc, push16_eq]; rfl) (by rw [storedAt_callCc, hc]; rfl)
  | retCc cc =>
    right
    cases hc : s.cpu.holds cc
    · exact .stored0 _ (by rw [exec_retCc]; unfold returnIf; rw [hc]; rfl) (by rw [storedAt_retCc])
    · exact .stored0 _ (by rw [exec_retCc]; unfold returnIf; rw [hc]; rfl) (by rw [storedAt_retCc])
  | rst b => exact .inr (.stored2 _ _ _ (by rw [exec_rst]; unfold restart; rw [push16_eq]; rfl) (storedAt_rst b s))
  | unassigned u => exact .inl ⟨_, (exec_unassigned u s)⟩
  | nop => exact .inr (.stored0 _ (exec_of_nop s) (storedAt_nop s))
  | ld_atBc_a => exact .inr (.stored1 _ _ _ (exec_of_ld_atBc_a s) (storedAt_ld_atBc_a s))
  | rlca => exact .inr (.stored0 _ (exec_of_rlca s) (storedAt_rlca s))
  | ld_atA16_sp nn => exact .inr (.stored2 _ _ _ (exec_of_ld_atA16_sp nn s) (storedAt_ld_atA16_sp nn s))
  | ld_a_atBc => exact .inr (.stored0 _ (exec_of_ld_a_atBc s) (storedAt_ld_a_atBc s))
  | rrca => exact .inr (.stored0 _ (exec_of_rrca s) (storedAt_rrca s))
  | stop n =>
    rw [exec_of_stop]; unfold stop
    cases hp : s.params.stopBehaviour
    case fault => exact .inl ⟨_, rfl⟩
    all_goals exact .inr (.stored0 _ (by rw [exec_of_stop]; unfold stop; rw [hp]; rfl) (storedAt_stop n s))
  | ld_atDe_a => exact .inr (.stored1 _ _ _ (exec_of_ld_atDe_a s) (storedAt_ld_atDe_a s))
  | rla => exact .inr (.stored0 _ (exec_of_rla s) (storedAt_rla s))
  | jr_e e => exact .inr (.stored0 _ (exec_of_jr_e e s) (storedAt_jr_e e s))
  | ld_a_atDe => exact .inr (.stored0 _ (exec_of_ld_a_atDe s) (storedAt_ld_a_atDe s))
  | rra => exact .inr (.stored0 _ (exec_of_rra s) (storedAt_rra s))
  | ld_atHlInc_a => exact .inr (.stored1 _ _ _ (exec_of_ld_atHlInc_a s) (storedAt_ld_atHlInc_a s))
  | daa => exact .inr (.stored0 _ (exec_of_daa s) (storedAt_daa s))
  | ld_a_atHlInc => exact .inr (.stored0 _ (exec_of_ld_a_atHlInc s) (storedAt_ld_a_atHlInc s))
  | cpl => exact .inr (.stored0 _ (exec_of_cpl s) (storedAt_cpl s))
  | ld_atHlDec_a => exact .inr (.stored1 _ _ _ (exec_of_ld_atHlDec_a s) (storedAt_ld_atHlDec_a s))
  | inc_atHl => exact .inr (.stored1 _ _ _ (exec_of_inc_atHl s) (storedAt_inc_atHl s))
  | dec_atHl => exact .inr (.stored1 _ _ _ (exec_of_dec_atHl s) (storedAt_dec_atHl s))
  | ld_atHl_d8 n => exact .inr (.stored1 _ _ _ (exec_of_ld_atHl_d8 n s) (storedAt_ld_atHl_d8 n s))
  | scf => exact .inr (.stored0 _ (exec_of_scf s) (storedAt_scf s))
  | ld_a_atHlDec => exact .inr (.stored0 _ (exec_of_ld_a_atHlDec s) (storedAt_ld_a_atHlDec s))
  | ccf => exact .inr (.stored0 _ (exec_of_ccf s) (storedAt_ccf s))
  | halt => exact .inr (.stored0 _ (exec_of_halt s) (storedAt_halt s))
  | jp_a16 nn => exact .inr (.stored0 _ (exec_of_jp_a16 nn s) (storedAt_jp_a16 nn s))
  | ret => exact .inr (.stored0 _ (exec_of_ret s) (storedAt_ret s))
  | prefix_cb => exact .inr (.stored0 _ (exec_of_prefix_cb s) (storedAt_prefix_cb s))
  | call_a16 nn => exact .inr (.stored2 _ _ _ (by rw [exec_of_call_a16]; unfold call; rw [push16_eq]; rfl) (storedAt_call_a16 nn s))
  | reti => exact .inr (.stored0 _ (exec_of_reti s) (storedAt_reti s))
  | ldh_atA8_a n => exact .inr (.stored1 _ _ _ (exec_of_ldh_atA8_a n s) (storedAt_ldh_atA8_a n s))
  | ld_atC_a => exact .inr (.stored1 _ _ _ (exec_of_ld_atC_a s) (storedAt_ld_atC_a s))
  | add_sp_e e => exact .inr (.stored0 _ (exec_of_add_sp_e e s) (storedAt_add_sp_e e s))
  | jp_hl => exact .inr (.stored0 _ (exec_of_jp_hl s) (storedAt_jp_hl s))
  | ld_atA16_a nn => exact .inr (.stored1 _ _ _ (exec_of_ld_atA16_a nn s) (storedAt_ld_atA16_a nn s))
  | ldh_a_atA8 n => exact .inr (.stored0 _ (exec_of_ldh_a_atA8 n s) (storedAt_ldh_a_atA8 n s))
  | ld_a_atC => exact .inr (.stored0 _ (exec_of_ld_a_atC s) (storedAt_ld_a_atC s))
  | di => exact .inr (.stored0 _ (exec_of_di s) (storedAt_di s))
  | ld_hl_sp_e e => exact .inr (.stored0 _ (exec_of_ld_hl_sp_e e s) (storedAt_ld_hl_sp_e e s))
  | ld_sp_hl => exact .inr (.stored0 _ (exec_of_ld_sp_hl s) (storedAt_ld_sp_hl s))
  | ld_a_atA16 nn => exact .inr (.stored0 _ (exec_of_ld_a_atA16 nn s) (storedAt_ld_a_atA16 nn s))
  | ei => exact .inr (.stored0 _ (exec_of_ei s) (storedAt_ei s))

end Sys2Proof.Machine
end

