-- ==== Sys2Proof/Laws/Pixel.lean ====
section
/-! SUPPORT. What one pixel iteration can do: its frame, the bounds of the queues, its progress along the line and the
pixels it writes. -/

namespace Sys2Proof.Machine

/-- A state that differs from `s` only in the queues and cursors of the pixel pipeline and in the frame buffer. -/
def PixelFrame (s t : State) : Prop :=
  t = { s with
        frame := t.frame
        ppu := { s.ppu with
                 bgFifo := t.ppu.bgFifo, oamFifo := t.ppu.oamFifo, drawX := t.ppu.drawX
                 discardLeft := t.ppu.discardLeft, fetchN := t.ppu.fetchN, windowActive := t.ppu.windowActive } }

theorem PixelFrame.rfl {s : State} : PixelFrame s s := by rfl

theorem PixelFrame.trans {s t u : State} (h : PixelFrame s t) (h' : PixelFrame t u) : PixelFrame s u := by
  unfold PixelFrame at h h' ⊢
  rw [h'] at *
  rw [h]

theorem PixelFrame.setPpu {s : State} {p : Ppu}
    (h : p = { s.ppu with
               bgFifo := p.bgFifo, oamFifo := p.oamFifo, drawX := p.drawX, discardLeft := p.discardLeft
               fetchN := p.fetchN, windowActive := p.windowActive }) : PixelFrame s (s.setPpu p) := by
  unfold PixelFrame
  rw [h]
  rfl

/-! The seven steps. -/

theorem startWindow_frame (s : State) : PixelFrame s (startWindow s) := by
  unfold startWindow
  split
  · exact .setPpu rfl
  · exact .rfl

theorem startWindow_ppu (s : State) :
    (startWindow s).ppu.drawX = s.ppu.drawX ∧ (startWindow s).ppu.oamFifo = s.ppu.oamFifo ∧
      (startWindow s).frame = s.frame ∧ (startWindow s).ppu.discardLeft ≤ s.ppu.discardLeft ∧
      (startWindow s).ppu.bgFifo.length ≤ s.ppu.bgFifo.length ∧
      (startWindow s).ppu.windowActive = (s.ppu.windowActive || windowTriggers s.ppu) := by
  unfold startWindow
  split
  · rename_i h; simp [h]
  · rename_i h; simp [h]

@[simp] theorem tileRow_length (s : State) : (tileRow s).length = 8 := by simp [tileRow]

theorem refillBackground_frame (s : State) : PixelFrame s (refillBackground s) := by
  unfold refillBackground
  split
  · exact .setPpu rfl
  · exact .rfl

theorem refillBackground_ppu (s : State) (h : s.ppu.bgFifo.length ≤ 16) :
    (refillBackground s).ppu.drawX = s.ppu.drawX ∧ (refillBackground s).ppu.oamFifo = s.ppu.oamFifo ∧
      (refillBackground s).frame = s.frame ∧ (refillBackground s).ppu.discardLeft = s.ppu.discardLeft ∧
      (refillBackground s).ppu.windowActive = s.ppu.windowActive ∧
      1 ≤ (refillBackground s).ppu.bgFifo.length ∧ (refillBackground s).ppu.bgFifo.length ≤ 16 := by
  unfold refillBackground
  split
  · simp; omega
  · simp; omega

@[simp] theorem mergePixels_length (slots pixels : List OamPixel) : (mergePixels slots pixels).length = slots.length := by
  induction slots generalizing pixels with
  | nil => cases pixels <;> rfl
  | cons slot slots ih =>
    cases pixels with
    | nil => rfl
    | cons px pixels => simp [mergePixels, ih]

theorem padOamFifo_length (fifo : List OamPixel) : (padOamFifo fifo).length = max 8 fifo.length := by
  simp [padOamFifo]; omega

theorem mergeSprite_length (s : State) (k : Fin 40) :
    (mergeSprite s k).ppu.oamFifo.length = max 8 s.ppu.oamFifo.length := by
  simp [mergeSprite, padOamFifo_length]

theorem mergeSprite_frame (s : State) (k : Fin 40) : PixelFrame s (mergeSprite s k) := .setPpu rfl

/-- Merging sprites changes `oam_fifo` alone and keeps its bound. -/
theorem mergeSprites_ppu (s : State) (h : s.ppu.oamFifo.length ≤ 8) :
    mergeSprites s = s.setPpu { s.ppu with oamFifo := (mergeSprites s).ppu.oamFifo } ∧
      (mergeSprites s).ppu.oamFifo.length ≤ 8 := by
  unfold mergeSprites
  split
  · generalize s.ppu.visible.filter _ = vs
    clear * - h
    induction vs generalizing s with
    | nil => exact ⟨by rfl, h⟩
    | cons v vs ih =>
      have hm : (mergeSprite s v.index).ppu.oamFifo.length ≤ 8 := by rw [mergeSprite_length]; omega
      obtain ⟨he, hl⟩ := ih (mergeSprite s v.index) hm
      refine ⟨?_, hl⟩
      rw [List.foldl_cons, he]
      rfl
  · exact ⟨by rfl, h⟩

theorem commitPixel_frame (s : State) (bg : Colour) : PixelFrame s (commitPixel s bg) := by
  unfold commitPixel
  split
  · rfl
  · exact .setPpu rfl

theorem commitPixel_ppu (s : State) (bg : Colour) :
    (commitPixel s bg).ppu = { s.ppu with oamFifo := s.ppu.oamFifo.tail, drawX := s.ppu.drawX + 1 } := by
  unfold commitPixel; split <;> rfl

theorem commitPixel_frameBuffer (s : State) (bg : Colour) :
    (commitPixel s bg).frame =
      if s.ppu.ly.toNat < 144 then writePixel s.frame s.ppu.drawX s.ppu.ly.toNat (mixShade s.ppu bg) else s.frame := by
  unfold commitPixel; split <;> simp_all

/-! The frame buffer. -/

/-- Two places on the screen are one pixel only if they are the same place. -/
theorem pixelKey_injective {x x' y y' : Nat} (hx : x < 160) (hx' : x' < 160) (h : pixelKey x y = pixelKey x' y') :
    x = x' ∧ y = y' := by
  unfold pixelKey at h; omega

theorem readPixel_writePixel (fb : FrameBuffer) {x x' y y' : Nat} (v : Colour) (hx : x < 160) (hx' : x' < 160) :
    readPixel (writePixel fb x y v) x' y' = if x' = x ∧ y' = y then v else readPixel fb x' y' := by
  unfold readPixel writePixel
  rw [readCells_writeCells]
  by_cases h : x' = x ∧ y' = y
  · rw [if_pos h, if_pos (by rw [h.1, h.2])]
  · rw [if_neg h, if_neg (fun e => h (pixelKey_injective hx' hx e))]

theorem frameWf_writePixel {fb : FrameBuffer} (h : frameWf fb) {x y : Nat} (hx : x < 160) (hy : y < 144) (v : Colour) :
    frameWf (writePixel fb x y v) := wfCells_writeCells h (decide_eq_true (by unfold pixelKey; omega)) v

/-! One iteration. -/

/-- Pixels still to draw and to discard on this line. -/
def pixelsLeft (p : Ppu) : Nat := (160 - p.drawX) + p.discardLeft

/-- What an iteration needs to know of the pipeline, and keeps. -/
structure PixelReady (s : State) : Prop where
  bgFifo : s.ppu.bgFifo.length ≤ 16
  oamFifo : s.ppu.oamFifo.length ≤ 8
  drawX : s.ppu.drawX ≤ 160
  discardLeft : s.ppu.discardLeft ≤ 7
  frame : frameWf s.frame

/-- The state after steps 1 and 2. -/
theorem fetched_ppu {s : State} (h : PixelReady s) :
    let t := refillBackground (startWindow s)
    PixelFrame s t ∧ t.ppu.drawX = s.ppu.drawX ∧ t.ppu.oamFifo = s.ppu.oamFifo ∧ t.frame = s.frame ∧
      t.ppu.discardLeft ≤ s.ppu.discardLeft ∧ t.ppu.windowActive = (s.ppu.windowActive || windowTriggers s.ppu) ∧
      1 ≤ t.ppu.bgFifo.length ∧ t.ppu.bgFifo.length ≤ 16 := by
  obtain ⟨a1, a2, a3, a4, a5, a6⟩ := startWindow_ppu s
  obtain ⟨b1, b2, b3, b4, b5, b6, b7⟩ := refillBackground_ppu (startWindow s) (Nat.le_trans a5 h.bgFifo)
  exact ⟨(startWindow_frame s).trans (refillBackground_frame _), b1.trans a1, b2.trans a2, b3.trans a3, b4 ▸ a4,
    b5.trans a6, b6, b7⟩

/-- An iteration, once steps 1 to 3 have popped a background pixel: it drops the pixel or commits it. -/
theorem pixelIteration_cases {s : State} (h : PixelReady s) :
    ∃ bg rest, (refillBackground (startWindow s)).ppu.bgFifo = bg :: rest ∧ rest.length ≤ 15 ∧
      let s2 := (refillBackground (startWindow s)).setPpu
        { (refillBackground (startWindow s)).ppu with bgFifo := rest }
      (0 < s2.ppu.discardLeft ∧ pixelIteration s = s2.setPpu { s2.ppu with discardLeft := s2.ppu.discardLeft - 1 }) ∨
      (s2.ppu.discardLeft = 0 ∧ pixelIteration s = commitPixel (mergeSprites s2) bg) := by
  obtain ⟨-, -, -, -, -, -, hlo, hhi⟩ := fetched_ppu h
  cases hf : (refillBackground (startWindow s)).ppu.bgFifo with
  | nil => rw [hf] at hlo; simp at hlo
  | cons bg rest =>
    refine ⟨bg, rest, rfl, ?_, ?_⟩
    · rw [hf] at hhi; simp at hhi; omega
    · intro s2
      have he : pixelIteration s =
          if 0 < s2.ppu.discardLeft then s2.setPpu { s2.ppu with discardLeft := s2.ppu.discardLeft - 1 }
          else commitPixel (mergeSprites s2) bg := by
        unfold pixelIteration
        simp only [hf]
        rfl
      by_cases hd : 0 < s2.ppu.discardLeft
      · exact .inl ⟨hd, by rw [he, if_pos hd]⟩
      · exact .inr ⟨by omega, by rw [he, if_neg hd]⟩

/-- One iteration on a line: it keeps the bounds and everything outside the pipeline, brings the line's end nearer, starts
the window where its trigger holds, and writes no pixel but the one at the cursor. -/
theorem pixelIteration_spec {s : State} (h : PixelReady s) (hx : s.ppu.drawX < 160) :
    PixelReady (pixelIteration s) ∧ PixelFrame s (pixelIteration s) ∧
      pixelsLeft (pixelIteration s).ppu + 1 ≤ pixelsLeft s.ppu ∧
      (pixelIteration s).ppu.windowActive = (s.ppu.windowActive || windowTriggers s.ppu) ∧
      ∀ x y, x < 160 → y ≠ s.ppu.ly.toNat → readPixel (pixelIteration s).frame x y = readPixel s.frame x y := by
  obtain ⟨f1, f2, f3, f4, f5, f6, -, -⟩ := fetched_ppu h
  obtain ⟨bg, rest, hf, hrest, hcase⟩ := pixelIteration_cases h
  generalize refillBackground (startWindow s) = t at f1 f2 f3 f4 f5 f6 hf hcase
  have hdl := h.discardLeft
  have hb := h.bgFifo
  have ho := h.oamFifo
  have hly : t.ppu.ly = s.ppu.ly := by rw [f1]
  rcases hcase with ⟨hd, he⟩ | ⟨hd, he⟩
  · rw [he]
    simp only [State.setPpu_ppu] at hd ⊢
    refine ⟨⟨?_, ?_, ?_, ?_, ?_⟩, f1.trans ?_, ?_, f6, ?_⟩
    · simp only [State.setPpu_ppu]; omega
    · simp only [State.setPpu_ppu, f3]; exact ho
    · simp only [State.setPpu_ppu]; omega
    · simp only [State.setPpu_ppu]; omega
    · simp only [State.setPpu_frame, f4]; exact h.frame
    · rfl
    · simp only [pixelsLeft]; omega
    · intro x y _ _; simp only [State.setPpu_frame, f4]
  · rw [he]
    have ho2 : (t.setPpu { t.ppu with bgFifo := rest }).ppu.oamFifo.length ≤ 8 := by
      simp only [State.setPpu_ppu, f3]; exact ho
    obtain ⟨m1, m2⟩ := mergeSprites_ppu _ ho2
    simp only [State.setPpu_ppu] at hd
    have mppu := congrArg State.ppu m1
    have mframe := congrArg State.frame m1
    simp only [State.setPpu_ppu, State.setPpu_frame] at mppu mframe
    have mly : (mergeSprites (t.setPpu { t.ppu with bgFifo := rest })).ppu.ly = s.ppu.ly := by rw [mppu]; exact hly
    have mdx : (mergeSprites (t.setPpu { t.ppu with bgFifo := rest })).ppu.drawX = s.ppu.drawX := by
      rw [mppu]; exact f2
    refine ⟨⟨?_, ?_, ?_, ?_, ?_⟩, ?_, ?_, ?_, ?_⟩
    · rw [commitPixel_ppu, mppu]; exact Nat.le_succ_of_le hrest
    · rw [commitPixel_ppu]
      refine Nat.le_trans ?_ m2
      simp only [List.length_tail]
      exact Nat.sub_le _ _
    · rw [commitPixel_ppu]; simp only [mdx]; omega
    · rw [commitPixel_ppu, mppu]; simp only; omega
    · rw [commitPixel_frameBuffer, mframe, f4, mly, mdx]
      split
      · exact frameWf_writePixel h.frame hx (by assumption) _
      · exact h.frame
    · refine f1.trans (PixelFrame.trans (t := t.setPpu { t.ppu with bgFifo := rest }) (by rfl) ?_)
      refine PixelFrame.trans ?_ (commitPixel_frame _ bg)
      rw [m1]; exact .setPpu rfl
    · rw [commitPixel_ppu, pixelsLeft, pixelsLeft]
      simp only [mdx]
      rw [mppu]; simp only; omega
    · rw [commitPixel_ppu, mppu]; exact f6
    · intro x y hx' hy
      rw [commitPixel_frameBuffer, mframe, f4, mly, mdx]
      split
      · rw [readPixel_writePixel _ _ hx hx', if_neg (fun e => hy e.2)]
      · rfl

/-- The iterations of one tick: they keep the bounds and the frame, and either end the line or bring its end nearer by
one pixel each. -/
theorem pixelIterations_spec (n : Nat) {s : State} (h : PixelReady s) :
    PixelReady (pixelIterations n s) ∧ PixelFrame s (pixelIterations n s) ∧
      ((pixelIterations n s).ppu.drawX = 160 ∨
        pixelsLeft (pixelIterations n s).ppu + n ≤ pixelsLeft s.ppu) ∧
      ∀ x y, x < 160 → y ≠ s.ppu.ly.toNat → readPixel (pixelIterations n s).frame x y = readPixel s.frame x y := by
  induction n generalizing s with
  | zero => exact ⟨h, .rfl, .inr (Nat.le_refl _), fun _ _ _ _ => rfl⟩
  | succ n ih =>
    unfold pixelIterations
    by_cases hx : s.ppu.drawX < 160
    · rw [if_pos hx]
      obtain ⟨a1, a2, a3, -, a5⟩ := pixelIteration_spec h hx
      obtain ⟨b1, b2, b3, b4⟩ := ih a1
      have hly : (pixelIteration s).ppu.ly = s.ppu.ly := by rw [a2]
      refine ⟨b1, a2.trans b2, b3.imp id (fun _ => by omega), fun x y hx hy => ?_⟩
      rw [b4 x y hx (by rw [hly]; exact hy), a5 x y hx hy]
    · rw [if_neg hx]
      have stop : ∀ m, pixelIterations m s = s := by
        intro m
        induction m with
        | zero => rfl
        | succ m ihm => unfold pixelIterations; rw [if_neg hx, ihm]
      rw [stop n]
      exact ⟨h, .rfl, .inl (by have := h.drawX; omega), fun _ _ _ _ => rfl⟩

end Sys2Proof.Machine
end

