-- ==== Sys2Proof/Laws/Ppu.lean ====
section
/-! SUPPORT. What a PPU step can do: its frame, where it leaves the PPU in its line, and the bounds it keeps. -/

namespace Sys2Proof.Machine

/-! OAM search. -/

theorem insertSprite_perm (v : VisibleSprite) (vs : List VisibleSprite) : (insertSprite v vs).Perm (v :: vs) := by
  induction vs with
  | nil => exact .refl _
  | cons w ws ih =>
    unfold insertSprite
    split
    · exact .refl _
    · exact ((List.perm_cons w).mpr ih).trans (.swap v w ws)

theorem sortSprites_perm (vs : List VisibleSprite) : (sortSprites vs).Perm vs := by
  induction vs with
  | nil => exact .refl _
  | cons v vs ih => exact (insertSprite_perm v _).trans ((List.perm_cons v).mpr ih)

theorem insertSprite_sorted {v : VisibleSprite} {vs : List VisibleSprite}
    (h : vs.Pairwise (fun v w => v.screenX ≤ w.screenX)) :
    (insertSprite v vs).Pairwise (fun v w => v.screenX ≤ w.screenX) := by
  induction vs with
  | nil => simp [insertSprite]
  | cons w ws ih =>
    obtain ⟨hw, hs⟩ := List.pairwise_cons.mp h
    unfold insertSprite
    split
    · rename_i hv
      refine List.pairwise_cons.mpr ⟨fun u hu => ?_, h⟩
      rcases List.mem_cons.mp hu with rfl | hu
      · exact hv
      · exact Int.le_trans hv (hw u hu)
    · rename_i hv
      refine List.pairwise_cons.mpr ⟨fun u hu => ?_, ih hs⟩
      rcases List.mem_cons.mp ((insertSprite_perm v ws).mem_iff.mp hu) with rfl | hu
      · omega
      · exact hw u hu

theorem sortSprites_sorted (vs : List VisibleSprite) :
    (sortSprites vs).Pairwise (fun v w => v.screenX ≤ w.screenX) := by
  induction vs with
  | nil => exact .nil
  | cons v vs ih => exact insertSprite_sorted ih

theorem foundSprites_length (s : State) : (foundSprites s).length ≤ 10 := by simp [foundSprites]

/-! The mode machine. -/

/-- A state that differs from `s` only in the PPU, IF and the frame buffer. -/
def PpuFrame (s t : State) : Prop :=
  t = { s with ppu := t.ppu, irq := { s.irq with iflag := t.irq.iflag }, frame := t.frame }

theorem PpuFrame.rfl {s : State} : PpuFrame s s := by rfl

theorem PpuFrame.trans {s t u : State} (h : PpuFrame s t) (h' : PpuFrame t u) : PpuFrame s u := by
  unfold PpuFrame at h h' ⊢
  rw [h'] at *
  rw [h]

theorem PixelFrame.ppuFrame {s t : State} (h : PixelFrame s t) : PpuFrame s t := by
  unfold PixelFrame at h
  unfold PpuFrame
  rw [h]

theorem setPpu_ppuFrame (s : State) (p : Ppu) : PpuFrame s (s.setPpu p) := by rfl

/-- Where a PPU step leaves the PPU: the invariant's clauses about it. -/
structure PpuKept (rate : Nat) (s : State) : Prop where
  timing : s.ppu.timing rate
  bounds : s.ppu.Bounds
  frame : frameWf s.frame

theorem PpuKept.ready {rate : Nat} {s : State} (h : PpuKept rate s) : PixelReady s :=
  ⟨h.bounds.bgFifo, h.bounds.oamFifo, h.bounds.drawX, h.bounds.discardLeft, h.frame⟩

theorem pixelIterations_done (n : Nat) {s : State} (h : s.ppu.drawX = 160) : pixelIterations n s = s := by
  induction n with
  | zero => rfl
  | succ n ih => unfold pixelIterations; rw [if_neg (by omega), ih]

theorem countPpu_ready {s : State} (h : PixelReady s) : PixelReady (countPpu s) :=
  ⟨h.bgFifo, h.oamFifo, h.drawX, h.discardLeft, h.frame⟩

/-- The place in the frame after one more tick. -/
def nextPosition (s : State) : Nat := (framePosition s + 1) % 17556

theorem frame_of_pixelFrame {s t : State} (h : PixelFrame s t) :
    t.ppu.visible = s.ppu.visible ∧ t.ppu.mode = s.ppu.mode ∧ t.ppu.ly = s.ppu.ly ∧
      t.ppu.lineCycle = s.ppu.lineCycle ∧ t.ppu.modeCycleCounter = s.ppu.modeCycleCounter ∧
      t.ppu.frameReady = s.ppu.frameReady ∧ t.params = s.params ∧ t.irq = s.irq := by
  rw [h]; exact ⟨rfl, rfl, rfl, rfl, rfl, rfl, rfl, rfl⟩

/-- What `modeStep` answers after the counters went up: the clauses kept, the place in the frame one tick on, and the
frame pulse exactly at its start. -/
structure ModeStepped (rate : Nat) (s t : State) : Prop where
  kept : PpuKept rate t
  position : framePosition t = nextPosition s
  pulse : t.ppu.frameReady = decide (framePosition t = 0)
  untouched : PpuFrame s t

theorem oamSearch_stepped {rate : Nat} {s : State} (h : PpuKept rate s) (hm : s.ppu.mode = .oamSearch) :
    ModeStepped rate s (oamSearchMode (countPpu s)) := by
  have ht := h.timing
  have hb := h.bounds
  unfold Ppu.timing at ht
  rw [hm] at ht
  obtain ⟨hly, hlc, hmc⟩ := ht
  unfold oamSearchMode
  by_cases hc : s.ppu.modeCycleCounter + 1 = 20
  · rw [if_pos (show (countPpu s).ppu.modeCycleCounter = 20 from hc)]
    have hd : (s.ppu.scx &&& 7).toNat ≤ 7 := by
      rw [BitVec.toNat_and]; exact Nat.and_le_right
    refine ⟨⟨?_, ⟨Nat.zero_le _, Nat.zero_le _, ?_, ?_, Nat.zero_le _, hd⟩, h.frame⟩, ?_, ?_, rfl⟩
    · show s.ppu.ly.toNat ≤ 143 ∧ s.ppu.lineCycle + 1 = 0 + 20 ∧
        ((0 = 160 ∧ 0 < 43) ∨ (0 < 160 ∧ (160 - 0) + (s.ppu.scx &&& 7).toNat + rate * 0 ≤ 167))
      exact ⟨hly, by omega, .inr ⟨by omega, by omega⟩⟩
    · show (sortSprites (foundSprites (countPpu s))).length ≤ 10
      rw [(sortSprites_perm _).length_eq]; exact foundSprites_length _
    · exact sortSprites_sorted _
    · show 114 * s.ppu.ly.toNat + (s.ppu.lineCycle + 1) = (114 * s.ppu.ly.toNat + s.ppu.lineCycle + 1) % 17556
      omega
    · show false = decide (114 * s.ppu.ly.toNat + (s.ppu.lineCycle + 1) = 0)
      exact (decide_eq_false (by omega)).symm
  · rw [if_neg (show ¬(countPpu s).ppu.modeCycleCounter = 20 from hc)]
    refine ⟨⟨?_, ⟨hb.bgFifo, hb.oamFifo, hb.visible, hb.sorted, hb.drawX, hb.discardLeft⟩, h.frame⟩, ?_, ?_, rfl⟩
    · unfold Ppu.timing
      rw [show (countPpu s).ppu.mode = .oamSearch from hm]
      show s.ppu.ly.toNat ≤ 143 ∧ s.ppu.lineCycle + 1 = s.ppu.modeCycleCounter + 1 ∧ s.ppu.modeCycleCounter + 1 < 20
      omega
    · show 114 * s.ppu.ly.toNat + (s.ppu.lineCycle + 1) = (114 * s.ppu.ly.toNat + s.ppu.lineCycle + 1) % 17556
      omega
    · show false = decide (114 * s.ppu.ly.toNat + (s.ppu.lineCycle + 1) = 0)
      exact (decide_eq_false (by omega)).symm

theorem pixelTransfer_stepped {rate : Nat} {s : State} (h : PpuKept rate s) (hm : s.ppu.mode = .pixelTransfer)
    (hr : s.params.pixelItersPerTick = rate) (h2 : 2 ≤ rate) :
    ModeStepped rate s (pixelTransferMode (countPpu s)) := by
  have ht := h.timing
  have hb := h.bounds
  unfold Ppu.timing at ht
  rw [hm] at ht
  obtain ⟨hly, hlc, hdraw⟩ := ht
  obtain ⟨r1, r2, r3, -⟩ := pixelIterations_spec rate (countPpu_ready h.ready)
  obtain ⟨f1, f2, f3, f4, f5, f6, -, -⟩ := frame_of_pixelFrame r2
  have hdone : s.ppu.drawX = 160 → (pixelIterations rate (countPpu s)).ppu.drawX = 160 := fun e => by
    rw [pixelIterations_done rate (show (countPpu s).ppu.drawX = 160 from e)]; exact e
  unfold pixelTransferMode
  rw [show (countPpu s).params.pixelItersPerTick = rate from hr]
  generalize pixelIterations rate (countPpu s) = t at r1 r2 r3 f1 f2 f3 f4 f5 f6 hdone
  have e1 : (countPpu s).ppu.visible = s.ppu.visible := rfl
  have e3 : t.ppu.ly = s.ppu.ly := f3
  have e4 : t.ppu.lineCycle = s.ppu.lineCycle + 1 := f4
  have e5 : t.ppu.modeCycleCounter = s.ppu.modeCycleCounter + 1 := f5
  have e6 : t.ppu.frameReady = false := f6
  have left : pixelsLeft (countPpu s).ppu = (160 - s.ppu.drawX) + s.ppu.discardLeft := rfl
  have tleft : pixelsLeft t.ppu = (160 - t.ppu.drawX) + t.ppu.discardLeft := rfl
  have mul : rate * (s.ppu.modeCycleCounter + 1) = rate * s.ppu.modeCycleCounter + rate := Nat.mul_succ _ _
  have twice : 2 * s.ppu.modeCycleCounter ≤ rate * s.ppu.modeCycleCounter := Nat.mul_le_mul_right _ h2
  have four : 4 ≤ rate → 4 * s.ppu.modeCycleCounter ≤ rate * s.ppu.modeCycleCounter := Nat.mul_le_mul_right _
  have hvis : t.ppu.visible.length ≤ 10 := by rw [f1]; exact hb.visible
  have hsort : t.ppu.visible.Pairwise (fun v w => v.screenX ≤ w.screenX) := by rw [f1]; exact hb.sorted
  have hx := r1.drawX
  have counted : PpuFrame s t := (setPpu_ppuFrame s _).trans r2.ppuFrame
  by_cases hc : t.ppu.drawX = 160 ∧ 43 ≤ t.ppu.modeCycleCounter
  · simp only [if_pos hc]
    refine ⟨⟨?_, ⟨r1.bgFifo, r1.oamFifo, hvis, hsort, hx, r1.discardLeft⟩, r1.frame⟩, ?_, ?_,
      counted.trans (setPpu_ppuFrame t _)⟩
    · show t.ppu.ly.toNat ≤ 143 ∧ t.ppu.lineCycle < 114 ∧ 0 + 63 ≤ t.ppu.lineCycle ∧
        (4 ≤ rate → t.ppu.lineCycle = 0 + 63)
      rw [e3, e4]
      rw [e5] at hc
      refine ⟨hly, by omega, by omega, fun h4 => ?_⟩
      have := four h4
      omega
    · show 114 * t.ppu.ly.toNat + t.ppu.lineCycle = (114 * s.ppu.ly.toNat + s.ppu.lineCycle + 1) % 17556
      rw [e3, e4]; rw [e5] at hc; omega
    · show t.ppu.frameReady = decide (114 * t.ppu.ly.toNat + t.ppu.lineCycle = 0)
      rw [e6, e4]; exact (decide_eq_false (by omega)).symm
  · simp only [if_neg hc]
    refine ⟨⟨?_, ⟨r1.bgFifo, r1.oamFifo, hvis, hsort, hx, r1.discardLeft⟩, r1.frame⟩, ?_, ?_, counted⟩
    · unfold Ppu.timing
      rw [show t.ppu.mode = .pixelTransfer from f2.trans hm]
      show t.ppu.ly.toNat ≤ 143 ∧ t.ppu.lineCycle = t.ppu.modeCycleCounter + 20 ∧
        ((t.ppu.drawX = 160 ∧ t.ppu.modeCycleCounter < 43) ∨
          (t.ppu.drawX < 160 ∧ (160 - t.ppu.drawX) + t.ppu.discardLeft + rate * t.ppu.modeCycleCounter ≤ 167))
      rw [e3, e4, e5] at *
      refine ⟨hly, by omega, ?_⟩
      by_cases hd : t.ppu.drawX = 160
      · exact .inl ⟨hd, by omega⟩
      · refine .inr ⟨by omega, ?_⟩
        have : ¬s.ppu.drawX = 160 := fun e => hd (hdone e)
        rw [mul]
        omega
    · show 114 * t.ppu.ly.toNat + t.ppu.lineCycle = (114 * s.ppu.ly.toNat + s.ppu.lineCycle + 1) % 17556
      rw [e3, e4]; omega
    · rw [e6]
      show false = decide (114 * t.ppu.ly.toNat + t.ppu.lineCycle = 0)
      rw [e4]; exact (decide_eq_false (by omega)).symm

theorem toNat_ly_succ {ly : Byte} (h : ly.toNat ≤ 153) : (ly + 1).toNat = ly.toNat + 1 := by
  rw [BitVec.toNat_add]
  show (ly.toNat + 1) % 256 = _
  omega

theorem hBlank_stepped {rate : Nat} {s : State} (h : PpuKept rate s) (hm : s.ppu.mode = .hBlank) :
    ModeStepped rate s (hBlankMode (countPpu s)) := by
  have ht := h.timing
  have hb := h.bounds
  unfold Ppu.timing at ht
  rw [hm] at ht
  obtain ⟨hly, hlc, hmc, hfour⟩ := ht
  have hs : (s.ppu.ly + 1).toNat = s.ppu.ly.toNat + 1 := toNat_ly_succ (by omega)
  have bounds : (countPpu s).ppu.Bounds :=
    ⟨hb.bgFifo, hb.oamFifo, hb.visible, hb.sorted, hb.drawX, hb.discardLeft⟩
  unfold hBlankMode
  by_cases hc : s.ppu.lineCycle + 1 = 114
  · rw [if_pos (show (countPpu s).ppu.lineCycle = 114 from hc)]
    by_cases h144 : s.ppu.ly + 1 = 144
    · simp only [show (countPpu s).ppu.ly + 1 = 144 from h144, if_true]
      have h144n : s.ppu.ly.toNat + 1 = 144 := by rw [← hs, h144]; rfl
      refine ⟨⟨?_, ⟨hb.bgFifo, hb.oamFifo, hb.visible, hb.sorted, hb.drawX, hb.discardLeft⟩, h.frame⟩, ?_, ?_, rfl⟩
      · show 144 ≤ (144 : Byte).toNat ∧ (144 : Byte).toNat ≤ 153 ∧ 0 = 0 ∧ 0 < 114
        decide
      · show 114 * (144 : Byte).toNat + 0 = (114 * s.ppu.ly.toNat + s.ppu.lineCycle + 1) % 17556
        have : (144 : Byte).toNat = 144 := by decide
        omega
      · show false = decide (114 * (144 : Byte).toNat + 0 = 0)
        decide
    · simp only [show ¬(countPpu s).ppu.ly + 1 = 144 from h144, if_false]
      have hne : s.ppu.ly.toNat + 1 ≠ 144 := fun e => h144 (BitVec.eq_of_toNat_eq (hs.trans e))
      refine ⟨⟨?_, ⟨hb.bgFifo, hb.oamFifo, hb.visible, hb.sorted, hb.drawX, hb.discardLeft⟩, h.frame⟩, ?_, ?_, rfl⟩
      · show (s.ppu.ly + 1).toNat ≤ 143 ∧ 0 = 0 ∧ 0 < 20
        omega
      · show 114 * (s.ppu.ly + 1).toNat + 0 = (114 * s.ppu.ly.toNat + s.ppu.lineCycle + 1) % 17556
        omega
      · show false = decide (114 * (s.ppu.ly + 1).toNat + 0 = 0)
        exact (decide_eq_false (by omega)).symm
  · rw [if_neg (show ¬(countPpu s).ppu.lineCycle = 114 from hc)]
    refine ⟨⟨?_, bounds, h.frame⟩, ?_, ?_, rfl⟩
    · unfold Ppu.timing
      rw [show (countPpu s).ppu.mode = .hBlank from hm]
      show s.ppu.ly.toNat ≤ 143 ∧ s.ppu.lineCycle + 1 < 114 ∧ s.ppu.modeCycleCounter + 1 + 63 ≤ s.ppu.lineCycle + 1 ∧
        (4 ≤ rate → s.ppu.lineCycle + 1 = s.ppu.modeCycleCounter + 1 + 63)
      refine ⟨hly, by omega, by omega, fun h4 => ?_⟩
      have := hfour h4
      omega
    · show 114 * s.ppu.ly.toNat + (s.ppu.lineCycle + 1) = (114 * s.ppu.ly.toNat + s.ppu.lineCycle + 1) % 17556
      omega
    · show false = decide (114 * s.ppu.ly.toNat + (s.ppu.lineCycle + 1) = 0)
      exact (decide_eq_false (by omega)).symm

theorem vBlank_stepped {rate : Nat} {s : State} (h : PpuKept rate s) (hm : s.ppu.mode = .vBlank) :
    ModeStepped rate s (vBlankMode (countPpu s)) := by
  have ht := h.timing
  have hb := h.bounds
  unfold Ppu.timing at ht
  rw [hm] at ht
  obtain ⟨hly, hly', hlc, hlt⟩ := ht
  have hs : (s.ppu.ly + 1).toNat = s.ppu.ly.toNat + 1 := toNat_ly_succ (by omega)
  have bounds : (countPpu s).ppu.Bounds :=
    ⟨hb.bgFifo, hb.oamFifo, hb.visible, hb.sorted, hb.drawX, hb.discardLeft⟩
  unfold vBlankMode
  by_cases hc : s.ppu.lineCycle + 1 = 114
  · rw [if_pos (show (countPpu s).ppu.lineCycle = 114 from hc)]
    by_cases h154 : s.ppu.ly + 1 = 154
    · simp only [show (countPpu s).ppu.ly + 1 = 154 from h154, if_true]
      have h154n : s.ppu.ly.toNat + 1 = 154 := by rw [← hs, h154]; rfl
      refine ⟨⟨?_, ⟨hb.bgFifo, hb.oamFifo, hb.visible, hb.sorted, hb.drawX, hb.discardLeft⟩, h.frame⟩, ?_, ?_, rfl⟩
      · show (0 : Byte).toNat ≤ 143 ∧ 0 = 0 ∧ 0 < 20
        decide
      · show 114 * (0 : Byte).toNat + 0 = (114 * s.ppu.ly.toNat + s.ppu.lineCycle + 1) % 17556
        have : (0 : Byte).toNat = 0 := by decide
        omega
      · show true = decide (114 * (0 : Byte).toNat + 0 = 0)
        decide
    · simp only [show ¬(countPpu s).ppu.ly + 1 = 154 from h154, if_false]
      have hne : s.ppu.ly.toNat + 1 ≠ 154 := fun e => h154 (BitVec.eq_of_toNat_eq (hs.trans e))
      refine ⟨⟨?_, ⟨hb.bgFifo, hb.oamFifo, hb.visible, hb.sorted, hb.drawX, hb.discardLeft⟩, h.frame⟩, ?_, ?_, rfl⟩
      · unfold Ppu.timing
        show (match s.ppu.mode with
          | .oamSearch => _
          | .pixelTransfer => _
          | .hBlank => _
          | .vBlank => 144 ≤ (s.ppu.ly + 1).toNat ∧ (s.ppu.ly + 1).toNat ≤ 153 ∧ 0 = 0 ∧ 0 < 114)
        rw [hm]
        show 144 ≤ (s.ppu.ly + 1).toNat ∧ (s.ppu.ly + 1).toNat ≤ 153 ∧ 0 = 0 ∧ 0 < 114
        omega
      · show 114 * (s.ppu.ly + 1).toNat + 0 = (114 * s.ppu.ly.toNat + s.ppu.lineCycle + 1) % 17556
        omega
      · show false = decide (114 * (s.ppu.ly + 1).toNat + 0 = 0)
        exact (decide_eq_false (by omega)).symm
  · rw [if_neg (show ¬(countPpu s).ppu.lineCycle = 114 from hc)]
    refine ⟨⟨?_, bounds, h.frame⟩, ?_, ?_, rfl⟩
    · unfold Ppu.timing
      rw [show (countPpu s).ppu.mode = .vBlank from hm]
      show 144 ≤ s.ppu.ly.toNat ∧ s.ppu.ly.toNat ≤ 153 ∧ s.ppu.lineCycle + 1 = s.ppu.modeCycleCounter + 1 ∧
        s.ppu.lineCycle + 1 < 114
      omega
    · show 114 * s.ppu.ly.toNat + (s.ppu.lineCycle + 1) = (114 * s.ppu.ly.toNat + s.ppu.lineCycle + 1) % 17556
      omega
    · show false = decide (114 * s.ppu.ly.toNat + (s.ppu.lineCycle + 1) = 0)
      exact (decide_eq_false (by omega)).symm

theorem modeStep_stepped {rate : Nat} {s : State} (h : PpuKept rate s) (hr : s.params.pixelItersPerTick = rate)
    (h2 : 2 ≤ rate) : ModeStepped rate s (modeStep (countPpu s)) := by
  unfold modeStep
  cases hm : s.ppu.mode
  · rw [show (countPpu s).ppu.mode = .hBlank from hm]; exact hBlank_stepped h hm
  · rw [show (countPpu s).ppu.mode = .vBlank from hm]; exact vBlank_stepped h hm
  · rw [show (countPpu s).ppu.mode = .oamSearch from hm]; exact oamSearch_stepped h hm
  · rw [show (countPpu s).ppu.mode = .pixelTransfer from hm]; exact pixelTransfer_stepped h hm hr h2

/-- `StatUpdate` changes the latch and IF alone. -/
theorem statUpdate_frame (s : State) :
    statUpdate s =
      { s with irq := { s.irq with iflag := (statUpdate s).irq.iflag }
               ppu := { s.ppu with statIrqLatched := statLine s.ppu } } := by
  unfold statUpdate
  by_cases h : statLine s.ppu = true ∧ s.ppu.statIrqLatched = false
  · simp only [if_pos h]; rfl
  · simp only [if_neg h]; rfl

/-- A PPU step from a state the invariant describes. -/
theorem ppuStep_stepped {rate : Nat} {s : State} (h : PpuKept rate s) (hr : s.params.pixelItersPerTick = rate)
    (h2 : 2 ≤ rate) : ModeStepped rate s (ppuStep s) := by
  have m := modeStep_stepped h hr h2
  unfold ppuStep
  have e := statUpdate_frame (modeStep (countPpu s))
  generalize modeStep (countPpu s) = t at m e
  have hb := m.kept.bounds
  rw [e]
  refine ⟨⟨m.kept.timing, ⟨hb.bgFifo, hb.oamFifo, hb.visible, hb.sorted, hb.drawX, hb.discardLeft⟩, m.kept.frame⟩,
    m.position, m.pulse, m.untouched.trans rfl⟩

end Sys2Proof.Machine
end

