-- ==== Sys2Proof/Laws/Tick.lean ====
section
/-! SUPPORT. What a tick can do: the cases of `CpuStep`, what each agent and the host keep, and a step as its parts. -/

namespace Sys2Proof.Machine

/-! Stores in a row. -/

@[simp] theorem storeBytes_cpu (s : State) (ws : List (Word × Byte)) : (storeBytes s ws).cpu = s.cpu := by
  induction ws generalizing s with
  | nil => rfl
  | cons w ws ih => rw [storeBytes_cons, ih, memWrite_cpu]

theorem memRead_storeBytes_other (acc : Access) (s : State) (ws : List (Word × Byte)) (b : Word)
    (h : ∀ a ∈ ws.map Prod.fst, mayChange a b = false) : memRead acc (storeBytes s ws) b = memRead acc s b := by
  induction ws generalizing s with
  | nil => rfl
  | cons w ws ih =>
    simp only [List.map_cons, List.mem_cons, forall_eq_or_imp] at h
    rw [storeBytes_cons, ih _ h.2, memRead_memWrite_other acc s _ h.1]

/-! What everything but the PPU keeps. -/

/-- `t` comes from `s` by stores and interrupt requests: the PPU is where it was in its line, its queues are as they were,
ROM and the parameters stand, and the canonical form and the divider's multiple of 4 are kept. -/
structure Kept (s t : State) : Prop where
  ppu : t.ppu = { s.ppu with
      lcdc := t.ppu.lcdc, statEn := t.ppu.statEn, scy := t.ppu.scy, scx := t.ppu.scx, lyc := t.ppu.lyc
      bgp := t.ppu.bgp, obp0 := t.ppu.obp0, obp1 := t.ppu.obp1, wy := t.ppu.wy, wx := t.ppu.wx }
  mem : s.mem.wf → t.mem.wf
  rom : ∀ k, k < 0x8000 → readByte t.mem k = readByte s.mem k
  divider : s.timer.fullDiv.toNat % 4 = 0 → t.timer.fullDiv.toNat % 4 = 0
  bootRom : t.bootRom = s.bootRom
  frame : t.frame = s.frame
  params : t.params = s.params

theorem Kept.refl (s : State) : Kept s s := ⟨rfl, id, fun _ _ => rfl, id, rfl, rfl, rfl⟩

theorem Kept.trans {s t u : State} (h : Kept s t) (h' : Kept t u) : Kept s u where
  ppu := by rw [h'.ppu, h.ppu]
  mem := h'.mem ∘ h.mem
  rom := fun k hk => (h'.rom k hk).trans (h.rom k hk)
  divider := h'.divider ∘ h.divider
  bootRom := h'.bootRom.trans h.bootRom
  frame := h'.frame.trans h.frame
  params := h'.params.trans h.params

theorem Kept.timing {s t : State} (h : Kept s t) (rate : Nat) : t.ppu.timing rate ↔ s.ppu.timing rate := by
  rw [h.ppu]; exact Iff.rfl

theorem Kept.bounds {s t : State} (h : Kept s t) (hb : s.ppu.Bounds) : t.ppu.Bounds := by
  rw [h.ppu]
  exact ⟨hb.bgFifo, hb.oamFifo, hb.visible, hb.sorted, hb.drawX, hb.discardLeft⟩

theorem Kept.position {s t : State} (h : Kept s t) :
    framePosition t = framePosition s ∧ t.ppu.frameReady = s.ppu.frameReady ∧ t.ppu.mode = s.ppu.mode := by
  unfold framePosition
  rw [h.ppu]
  exact ⟨rfl, rfl, rfl⟩

theorem Kept.ppuKept {rate : Nat} {s t : State} (h : Kept s t) (hp : PpuKept rate s) : PpuKept rate t :=
  ⟨(h.timing rate).mpr hp.timing, h.bounds hp.bounds, h.frame ▸ hp.frame⟩

theorem setCpu_kept (s : State) (c : Cpu) : Kept s (s.setCpu c) := ⟨rfl, id, fun _ _ => rfl, id, rfl, rfl, rfl⟩

theorem setIf_kept (s : State) (v : Byte) : Kept s (s.setIf v) := ⟨rfl, id, fun _ _ => rfl, id, rfl, rfl, rfl⟩

theorem memWrite_kept (s : State) (a : Word) (v : Byte) : Kept s (memWrite s a v) where
  ppu := memWrite_ppu s a v
  mem := fun h => memWrite_wf h a v
  rom := fun _ hk => readByte_memWrite_rom s a v hk
  divider := fun h => by
    rcases memWrite_fullDiv s a v with e | e <;> rw [e]
    · exact h
    · rfl
  bootRom := memWrite_bootRom s a v
  frame := memWrite_frameBuffer s a v
  params := memWrite_params s a v

theorem storeBytes_kept (s : State) (ws : List (Word × Byte)) : Kept s (storeBytes s ws) := by
  induction ws generalizing s with
  | nil => exact .refl s
  | cons w ws ih => exact (memWrite_kept s w.1 w.2).trans (ih _)

/-- What a next state of an instruction keeps. -/
theorem exec_kept {i : Instr} {s t : State} (h : exec i s = .next t) : Kept s t := by
  rcases exec_shape i s with ⟨op, e⟩ | ⟨ws, c, _, e⟩
  · rw [e] at h; exact absurd h (by simp)
  · rw [e] at h
    cases h
    exact (storeBytes_kept s ws).trans (setCpu_kept _ c)

theorem takeInterrupt_kept (s : State) (i : Fin 5) : Kept s (s.takeInterrupt i) := by
  unfold State.takeInterrupt
  simp only [push16_eq]
  exact ((((setCpu_kept s _).trans (setIf_kept _ _)).trans (memWrite_kept _ _ _)).trans (memWrite_kept _ _ _)).trans
    (setCpu_kept _ _)

/-! `CpuStep`. -/

/-- No instruction is refused. -/
theorem exec_not_refused (i : Instr) (s : State) (r : Refusal) : exec i s ≠ .refused r := by
  rcases exec_shape i s with ⟨op, e⟩ | ⟨ws, c, _, e⟩ <;> rw [e] <;> simp

/-- The four things a `CpuStep` can be (60_exceptions.md R250). -/
theorem cpuStep_cases (s : State) :
    (s.cpu.halted = true ∧ s.pending = 0 ∧ cpuStep s = .next s) ∨
    (¬(s.cpu.halted = true ∧ s.pending = 0) ∧ s.cpu.cyclesRemaining ≠ 1 ∧ cpuStep s = .next s.countDown) ∨
    (AtFetch s ∧ (s.cpu.ime = true ∧ s.pending ≠ 0) ∧ cpuStep s = .next s.countDown.service) ∨
    (AtFetch s ∧ ¬(s.cpu.ime = true ∧ s.pending ≠ 0) ∧ cpuStep s = exec s.fetched (toFetch s)) := by
  unfold cpuStep
  by_cases hw : s.cpu.halted = true ∧ s.pending = 0
  · exact .inl ⟨hw.1, hw.2, if_pos hw⟩
  rw [if_neg hw]
  have hcd : s.countDown.cpu.cyclesRemaining = s.cpu.cyclesRemaining - 1 := rfl
  by_cases hc : s.cpu.cyclesRemaining = 1
  · have hz : ¬s.countDown.cpu.cyclesRemaining ≠ 0 := by rw [hcd, hc]; decide
    rw [if_neg hz]
    unfold fetchPoint
    by_cases hi : s.cpu.ime = true ∧ s.pending ≠ 0
    · exact .inr (.inr (.inl ⟨⟨hw, hc⟩, hi, if_pos hi⟩))
    · refine .inr (.inr (.inr ⟨⟨hw, hc⟩, hi, ?_⟩))
      rw [if_neg (show ¬(s.countDown.cpu.ime = true ∧ s.countDown.pending ≠ 0) from hi)]
      show exec s.fetched (s.countDown.setCbPending false) = _
      congr 1
      unfold toFetch State.countDown State.setCbPending State.setCycles State.setHalted
      simp only [hc]
      rfl
  · refine .inr (.inl ⟨hw, hc, if_pos ?_⟩)
    rw [hcd]
    intro e
    exact hc (by bv_omega)

theorem cpuStep_kept {s t : State} (h : cpuStep s = .next t) : Kept s t := by
  rcases cpuStep_cases s with ⟨-, -, e⟩ | ⟨-, -, e⟩ | ⟨-, -, e⟩ | ⟨-, -, e⟩ <;> rw [e] at h
  · cases h; exact .refl s
  · cases h; exact setCpu_kept s _
  · cases h; exact (setCpu_kept s _).trans (takeInterrupt_kept _ _)
  · exact (setCpu_kept s _).trans (exec_kept h)

theorem cpuStep_not_refused (s : State) (r : Refusal) : cpuStep s ≠ .refused r := by
  rcases cpuStep_cases s with ⟨-, -, e⟩ | ⟨-, -, e⟩ | ⟨-, -, e⟩ | ⟨-, -, e⟩ <;> rw [e]
  · simp
  · simp
  · simp
  · exact exec_not_refused _ _ r

/-! The other agents and the host. -/

theorem request_kept (s : State) (i : Fin 5) : Kept s (s.request i) := setIf_kept s _

theorem serialStep_kept (s : State) : Kept s (serialStep s) := by
  unfold serialStep
  cases s.serialInput with
  | nil => exact .refl s
  | cons asks rest => cases asks <;> exact ⟨rfl, id, fun _ _ => rfl, id, rfl, rfl, rfl⟩

theorem serialStep_cpu (s : State) : (serialStep s).cpu = s.cpu := by
  unfold serialStep
  cases s.serialInput with
  | nil => rfl
  | cons asks rest => cases asks <;> rfl

/-- The timer's step changes the timer and IF alone. -/
theorem timerStep_frame (s : State) :
    timerStep s = { s with timer := (timerStep s).timer, irq := { s.irq with iflag := (timerStep s).irq.iflag } } ∧
      (timerStep s).timer.fullDiv = s.timer.fullDiv + 4 := by
  unfold timerStep sampleTimer timaTick
  simp only
  split_ifs <;> exact ⟨rfl, rfl⟩

theorem timerStep_kept (s : State) : Kept s (timerStep s) := by
  obtain ⟨e, hd⟩ := timerStep_frame s
  refine ⟨by rw [e], by rw [e]; exact id, by rw [e]; exact fun _ _ => rfl, fun h => ?_, by rw [e], by rw [e], by rw [e]⟩
  rw [hd, BitVec.toNat_add]
  show (s.timer.fullDiv.toNat + 4) % 65536 % 4 = 0
  omega

theorem hostAct_kept (s : State) (a : HostAction) : Kept s (hostAct s a) := by
  cases a with
  | requestInterrupt i => exact request_kept s i
  | writeByte a v => exact memWrite_kept s a v

theorem hostActs_kept (s : State) (l : List HostAction) : Kept s (l.foldl hostAct s) := by
  induction l generalizing s with
  | nil => exact .refl s
  | cons a l ih => exact (hostAct_kept s a).trans (ih _)

theorem hostAct_cpu (s : State) (a : HostAction) : (hostAct s a).cpu = s.cpu := by
  cases a with
  | requestInterrupt i => rfl
  | writeByte a v => exact memWrite_cpu s a v

theorem hostActs_cpu (s : State) (l : List HostAction) : (l.foldl hostAct s).cpu = s.cpu := by
  induction l generalizing s with
  | nil => rfl
  | cons a l ih => rw [List.foldl_cons, ih, hostAct_cpu]

theorem endOfTick_kept (s : State) : Kept s (endOfTick s) := by
  have count : Kept s { s with drawCount := s.drawCount + 1 } := ⟨rfl, id, fun _ _ => rfl, id, rfl, rfl, rfl⟩
  unfold endOfTick hostStep
  refine count.trans ?_
  cases s.hostInput with
  | nil => exact .refl _
  | cons l rest =>
    refine Kept.trans ?_ (hostActs_kept _ l)
    exact ⟨rfl, id, fun _ _ => rfl, id, rfl, rfl, rfl⟩

theorem endOfTick_cpu (s : State) : (endOfTick s).cpu = s.cpu := by
  unfold endOfTick hostStep
  cases s.hostInput with
  | nil => rfl
  | cons l rest => exact hostActs_cpu _ l

/-! A step as its parts. -/

/-- A step that answers a next state: a `CpuStep` that does, then the other agents and the host. -/
theorem step_next {s t : State} (h : step s = .next t) :
    2 ≤ s.params.pixelItersPerTick ∧ ∃ u, cpuStep s = .next u ∧ t = endOfTick (afterCpu u) := by
  unfold step tickAndHost at h
  split at h
  · cases h
  refine ⟨by omega, ?_⟩
  unfold tick at h
  cases hc : cpuStep s with
  | next u => rw [hc] at h; cases h; exact ⟨u, rfl, rfl⟩
  | fault r => rw [hc] at h; cases h
  | refused r => rw [hc] at h; cases h

theorem step_of_cpuStep {s u : State} (h2 : 2 ≤ s.params.pixelItersPerTick) (h : cpuStep s = .next u) :
    step s = .next (endOfTick (afterCpu u)) := by
  unfold step tickAndHost tick
  rw [if_neg (by omega), h]

/-- A step faults exactly where its `CpuStep` does, and is refused only for its pixel rate. -/
theorem step_fault_iff (s : State) (r : Fault) (h2 : 2 ≤ s.params.pixelItersPerTick) :
    step s = .fault r ↔ cpuStep s = .fault r := by
  unfold step tickAndHost tick
  rw [if_neg (by omega)]
  cases cpuStep s <;> simp

theorem step_not_refused (s : State) (r : Refusal) (h2 : 2 ≤ s.params.pixelItersPerTick) : step s ≠ .refused r := by
  unfold step tickAndHost tick
  rw [if_neg (by omega)]
  have := cpuStep_not_refused s r
  cases h : cpuStep s <;> simp_all

/-- What a step from a state with the invariant does to everything but the CPU: the PPU is one tick on in its frame and in
its bounds, memory keeps its form, and the boot ROM, the parameters and the divider's multiple of 4 are kept. -/
structure Stepped (s t : State) : Prop where
  ppu : PpuKept s.params.pixelItersPerTick t
  position : framePosition t = nextPosition s
  pulse : t.ppu.frameReady = decide (framePosition t = 0)
  params : t.params = s.params
  mem : t.mem.wf
  bootRom : t.bootRom = s.bootRom
  divider : t.timer.fullDiv.toNat % 4 = 0

theorem step_stepped {s t : State} (hi : Inv s) (h : step s = .next t) : Stepped s t := by
  obtain ⟨h2, u, hu, rfl⟩ := step_next h
  have before := cpuStep_kept hu
  have m := ppuStep_stepped (before.ppuKept ⟨hi.timing, hi.bounds, hi.frame⟩) (by rw [before.params]) h2
  have after := ((timerStep_kept (ppuStep u)).trans (serialStep_kept _)).trans (endOfTick_kept _)
  have frame := m.untouched
  have position : framePosition (endOfTick (afterCpu u)) = framePosition (ppuStep u) := after.position.1
  refine ⟨after.ppuKept m.kept, ?_, ?_, ?_, after.mem ?_, ?_, after.divider ?_⟩
  · rw [position, m.position]; unfold nextPosition; rw [before.position.1]
  · rw [position, show (endOfTick (afterCpu u)).ppu.frameReady = _ from after.position.2.1]; exact m.pulse
  · rw [show (endOfTick (afterCpu u)).params = _ from after.params, frame]; exact before.params
  · rw [frame]; exact before.mem hi.mem
  · rw [show (endOfTick (afterCpu u)).bootRom = _ from after.bootRom, frame]; exact before.bootRom
  · rw [frame]; exact before.divider hi.divider

end Sys2Proof.Machine
end

