-- ==== Sys2Proof/Tests/Slice0.lean ====
section
/-! SUPPORT. Tests. Expected results come from the worked examples and vectors of spec/95_test_vectors.md (each theorem
`test_<id>` is its row <id>) or are worked out by hand from the rule named. Then the witnesses: for each statement with
hypotheses, a concrete state and operands that meet them together. -/

namespace Sys2Proof.Tests

open Machine

/-- A machine at reset but for the CPU, with code at PC and cells of memory given. -/
def placed (c : Cpu) (code : List Byte) (cells : Memory) : State :=
  { State.reset with cpu := c, mem := loadBytes cells c.pc.toNat code }

/-- The CPU after one step, and the bytes then read at some addresses. -/
def ran (s : State) (watch : List Word) : Option (Cpu × List Byte) :=
  match step s with
  | .next t => some (t.cpu, watch.map (memRead .data t))
  | .fault _ => none
  | .refused _ => none

/-! WellFormed: every ill-formed term is refused. -/

theorem test_unassigned_ill_formed :
    ([.unassigned_d3, .unassigned_db, .unassigned_dd, .unassigned_e3, .unassigned_e4, .unassigned_eb, .unassigned_ec,
      .unassigned_ed, .unassigned_f4, .unassigned_fc, .unassigned_fd] : List Instr).map Instr.wf =
      List.replicate 11 false := by decide
theorem test_others_well_formed :
    ([.nop, .stop 0xD3, .ld_a_d8 0xFF, .prefix_cb, .set_1_e] : List Instr).map Instr.wf = List.replicate 5 true := by
  decide

/-! Decoding: words written out bit by bit from 30_encoding.md R71, R75, R76 and the encodings of the table (the rows E of
95_test_vectors.md among them). -/

theorem test_decode_load8 : decode .main [0b01000110] = .ok (.ld_b_atHl, []) := by rfl
theorem test_decode_load8_immediate : decode .main [0b00110110, 0x7F, 0xAA] = .ok (.ld_atHl_d8 0x7F, [0xAA]) := by rfl
theorem test_decode_load8_absolute : decode .main [0b11111010, 0x34, 0x12] = .ok (.ld_a_atA16 0x1234, []) := by rfl
theorem test_decode_load16 : decode .main [0b00110001, 0xFE, 0xFF] = .ok (.ld_sp_d16 0xFFFE, []) := by rfl
theorem test_decode_pop_af : decode .main [0b11110001] = .ok (.pop_af, []) := by rfl
theorem test_decode_alu8 : decode .main [0b10111110] = .ok (.cp_a_atHl, []) := by rfl
theorem test_decode_alu16 : decode .main [0b00111001] = .ok (.add_hl_sp, []) := by rfl
theorem test_decode_rotate : decode .cb [0b00110110] = .ok (.swap_atHl, []) := by rfl
theorem test_decode_bit : decode .cb [0b01111100] = .ok (.bit_7_h, []) := by rfl
theorem test_decode_set : decode .cb [0b11111111] = .ok (.set_7_a, []) := by rfl
theorem test_decode_jump : decode .main [0b00101000, 0x80] = .ok (.jr_z_e 0x80, []) := by rfl
theorem test_decode_restart : decode .main [0b11111111] = .ok (.rst_38, []) := by rfl
theorem test_decode_system : decode .main [0b00010000, 0xD3] = .ok (.stop 0xD3, []) := by rfl
theorem test_decode_halt_is_no_load : decode .main [0b01110110] = .ok (.halt, []) := by rfl
theorem test_decode_unassigned : decode .main [0b11010011] = .ok (.unassigned_d3, []) := by rfl
theorem test_decode_missing_operand : (decode .main [0b00111110]).toOption = none := by rfl

/-! The host's questions: words of the table read by the decoder and run as the first instruction after reset. -/

theorem test_table_word_three_bytes : decodeTableWord 24 0x1234FA = some (.ld_a_atA16 0x1234) := by decide
theorem test_table_word_cb : decodeTableWord 16 0x37CB = some .swap_a := by decide
theorem test_table_word_prefix : decodeTableWord 8 0xCB = some .prefix_cb := by decide
theorem test_placed_word_runs :
    ran (State.reset.withFetchWord 16 0x123E) [] =
      some ({ Cpu.reset with a := 0x12, pc := 0x0002, cyclesRemaining := 2 }, []) := by decide
theorem test_placed_cb_word_runs :
    ran (State.reset.withFetchWord 16 0xC7CB) [] =
      some ({ Cpu.reset with a := 0x01, pc := 0x0001, cyclesRemaining := 1 }, []) := by decide
theorem test_placed_word_faults :
    step (State.reset.withFetchWord 8 0xDD) = .fault (.decodeFault 0xDD 0x0000) := by rfl

/-! 8-bit loads: 95_test_vectors.md section 2. -/

theorem test_L8_1 :
    ran (placed { Cpu.reset with b := 0x11, c := 0x22 } [0x41] []) [] =
      some ({ Cpu.reset with b := 0x22, c := 0x22, pc := 0x0001, cyclesRemaining := 1 }, []) := by decide

theorem test_L8_2 :
    ran (placed { Cpu.reset with a := 0x33, f := 0xF0 } [0x7F] []) [] =
      some ({ Cpu.reset with a := 0x33, f := 0xF0, pc := 0x0001, cyclesRemaining := 1 }, []) := by decide

theorem test_L8_3 :
    ran (placed Cpu.reset [0x3E, 0xFF] []) [] =
      some ({ Cpu.reset with a := 0xFF, pc := 0x0002, cyclesRemaining := 2 }, []) := by decide

theorem test_L8_4 :
    ran (placed { Cpu.reset with h := 0xC1, l := 0x23 } [0x7E] [(0xC123, 0x5A)]) [] =
      some ({ Cpu.reset with a := 0x5A, h := 0xC1, l := 0x23, pc := 0x0001, cyclesRemaining := 2 }, []) := by decide

theorem test_L8_6 :
    ran (placed { Cpu.reset with b := 0xAB, h := 0xDF, l := 0xFF } [0x70] []) [0xDFFF, 0xFDFF] =
      some ({ Cpu.reset with b := 0xAB, h := 0xDF, l := 0xFF, pc := 0x0001, cyclesRemaining := 2 }, [0xAB, 0x00]) := by
  decide

theorem test_L8_7 :
    ran (placed { Cpu.reset with h := 0xC0 } [0x36, 0x99] []) [0xC000] =
      some ({ Cpu.reset with h := 0xC0, pc := 0x0002, cyclesRemaining := 3 }, [0x99]) := by decide

theorem test_L8_8 :
    ran (placed { Cpu.reset with b := 0xC0, c := 0x10 } [0x0A] [(0xC010, 0x77)]) [] =
      some ({ Cpu.reset with a := 0x77, b := 0xC0, c := 0x10, pc := 0x0001, cyclesRemaining := 2 }, []) := by decide

theorem test_L8_9 :
    ran (placed { Cpu.reset with d := 0xE0, e := 0x10 } [0x1A] [(0xC010, 0x78)]) [] =
      some ({ Cpu.reset with a := 0x78, d := 0xE0, e := 0x10, pc := 0x0001, cyclesRemaining := 2 }, []) := by decide

theorem test_L8_10 :
    ran (placed { Cpu.reset with a := 0x12, b := 0xFF, c := 0x80 } [0x02] []) [0xFF80] =
      some ({ Cpu.reset with a := 0x12, b := 0xFF, c := 0x80, pc := 0x0001, cyclesRemaining := 2 }, [0x12]) := by decide

theorem test_L8_12 :
    ran (placed Cpu.reset [0xFA, 0x34, 0xC2] [(0xC234, 0x9C)]) [] =
      some ({ Cpu.reset with a := 0x9C, pc := 0x0003, cyclesRemaining := 4 }, []) := by decide

theorem test_L8_14 :
    ran (placed { Cpu.reset with a := 0x55 } [0xF0, 0x44] []) [] =
      some ({ Cpu.reset with pc := 0x0002, cyclesRemaining := 3 }, []) := by decide

theorem test_L8_15 :
    ran (placed { Cpu.reset with a := 0x5A } [0xE0, 0x80] []) [0xFF80] =
      some ({ Cpu.reset with a := 0x5A, pc := 0x0002, cyclesRemaining := 3 }, [0x5A]) := by decide

theorem test_L8_17 :
    ran (placed { Cpu.reset with c := 0x80 } [0xF2] [(0xFF80, 0x21)]) [] =
      some ({ Cpu.reset with a := 0x21, c := 0x80, pc := 0x0001, cyclesRemaining := 2 }, []) := by decide

theorem test_L8_20 :
    ran (placed { Cpu.reset with a := 0x02 } [0x32] []) [] =
      some ({ Cpu.reset with a := 0x02, h := 0xFF, l := 0xFF, pc := 0x0001, cyclesRemaining := 2 }, []) := by decide

theorem test_L8_21 :
    ran (placed { Cpu.reset with h := 0xC0, l := 0xFF } [0x2A] [(0xC0FF, 0x42)]) [] =
      some ({ Cpu.reset with a := 0x42, h := 0xC1, pc := 0x0001, cyclesRemaining := 2 }, []) := by decide

theorem test_L8_22 :
    ran (placed { Cpu.reset with h := 0xC1 } [0x3A] [(0xC100, 0x43)]) [] =
      some ({ Cpu.reset with a := 0x43, h := 0xC0, l := 0xFF, pc := 0x0001, cyclesRemaining := 2 }, []) := by decide

/-! 16-bit loads and the stack: 95_test_vectors.md section 2. -/

theorem test_L16_1 :
    ran (placed Cpu.reset [0x31, 0xFE, 0xFF] []) [] =
      some ({ Cpu.reset with sp := 0xFFFE, pc := 0x0003, cyclesRemaining := 3 }, []) := by decide

theorem test_L16_2 :
    ran (placed Cpu.reset [0x21, 0x34, 0x12] []) [] =
      some ({ Cpu.reset with h := 0x12, l := 0x34, pc := 0x0003, cyclesRemaining := 3 }, []) := by decide

theorem test_L16_3 :
    ran (placed { Cpu.reset with sp := 0xFFF8 } [0x08, 0x00, 0xC1] []) [0xC100, 0xC101] =
      some ({ Cpu.reset with sp := 0xFFF8, pc := 0x0003, cyclesRemaining := 5 }, [0xF8, 0xFF]) := by decide

theorem test_L16_4 :
    ran (placed { Cpu.reset with h := 0xDF, l := 0xFF } [0xF9] []) [] =
      some ({ Cpu.reset with h := 0xDF, l := 0xFF, sp := 0xDFFF, pc := 0x0001, cyclesRemaining := 2 }, []) := by decide

theorem test_L16_5 :
    ran (placed { Cpu.reset with f := 0xF0, sp := 0xFFF8 } [0xF8, 0x02] []) [] =
      some ({ Cpu.reset with h := 0xFF, l := 0xFA, sp := 0xFFF8, pc := 0x0002, cyclesRemaining := 3 }, []) := by decide

theorem test_L16_8 :
    ran (placed { Cpu.reset with b := 0x12, c := 0x34, sp := 0xFFFE } [0xC5] []) [0xFFFC, 0xFFFD] =
      some ({ Cpu.reset with b := 0x12, c := 0x34, sp := 0xFFFC, pc := 0x0001, cyclesRemaining := 4 }, [0x34, 0x12]) := by
  decide

theorem test_L16_9 :
    ran (placed { Cpu.reset with a := 0x12, f := 0xB0, sp := 0xC002 } [0xF5] []) [0xC000, 0xC001] =
      some ({ Cpu.reset with a := 0x12, f := 0xB0, sp := 0xC000, pc := 0x0001, cyclesRemaining := 4 }, [0xB0, 0x12]) := by
  decide

theorem test_L16_10 :
    ran (placed { Cpu.reset with sp := 0xC000 } [0xD1] [(0xC000, 0xCD), (0xC001, 0xAB)]) [] =
      some ({ Cpu.reset with d := 0xAB, e := 0xCD, sp := 0xC002, pc := 0x0001, cyclesRemaining := 3 }, []) := by decide

theorem test_L16_11 :
    ran (placed { Cpu.reset with sp := 0xC000 } [0xF1] [(0xC000, 0xFF), (0xC001, 0x12)]) [] =
      some ({ Cpu.reset with a := 0x12, f := 0xF0, sp := 0xC002, pc := 0x0001, cyclesRemaining := 3 }, []) := by decide

/-! 8-bit arithmetic and logic: 95_test_vectors.md section 2. -/

theorem test_A8_1 :
    ran (placed { Cpu.reset with a := 0x80 } [0x87] []) [] =
      some ({ Cpu.reset with f := 0x90, pc := 0x0001, cyclesRemaining := 1 }, []) := by decide

theorem test_A8_2 :
    ran (placed { Cpu.reset with a := 0x5C } [0x97] []) [] =
      some ({ Cpu.reset with f := 0xC0, pc := 0x0001, cyclesRemaining := 1 }, []) := by decide

theorem test_A8_3 :
    ran (placed { Cpu.reset with a := 0x3A, b := 0xC6 } [0x80] []) [] =
      some ({ Cpu.reset with f := 0xB0, b := 0xC6, pc := 0x0001, cyclesRemaining := 1 }, []) := by decide

theorem test_A8_5 :
    ran (placed { Cpu.reset with a := 0x01, h := 0xC0 } [0x86] [(0xC000, 0xFF)]) [] =
      some ({ Cpu.reset with f := 0xB0, h := 0xC0, pc := 0x0001, cyclesRemaining := 2 }, []) := by decide

theorem test_A8_6 :
    ran (placed { Cpu.reset with a := 0x7F, f := 0xF0 } [0xC6, 0x01] []) [] =
      some ({ Cpu.reset with a := 0x80, f := 0x20, pc := 0x0002, cyclesRemaining := 2 }, []) := by decide

theorem test_A8_7 :
    ran (placed { Cpu.reset with a := 0xFF, f := 0x10 } [0x88] []) [] =
      some ({ Cpu.reset with f := 0xB0, pc := 0x0001, cyclesRemaining := 1 }, []) := by decide

theorem test_A8_10 :
    ran (placed { Cpu.reset with f := 0x10 } [0xCE, 0xFF] []) [] =
      some ({ Cpu.reset with f := 0xB0, pc := 0x0002, cyclesRemaining := 2 }, []) := by decide

theorem test_A8_12 :
    ran (placed { Cpu.reset with b := 0x01 } [0x90] []) [] =
      some ({ Cpu.reset with a := 0xFF, f := 0x70, b := 0x01, pc := 0x0001, cyclesRemaining := 1 }, []) := by decide

theorem test_A8_13 :
    ran (placed { Cpu.reset with a := 0x0F } [0xD6, 0x10] []) [] =
      some ({ Cpu.reset with a := 0xFF, f := 0x50, pc := 0x0002, cyclesRemaining := 2 }, []) := by decide

theorem test_A8_14 :
    ran (placed { Cpu.reset with f := 0x10, b := 0xFF } [0x98] []) [] =
      some ({ Cpu.reset with f := 0xF0, b := 0xFF, pc := 0x0001, cyclesRemaining := 1 }, []) := by decide

theorem test_A8_15 :
    ran (placed { Cpu.reset with a := 0x10, f := 0x10, b := 0x0F } [0x98] []) [] =
      some ({ Cpu.reset with f := 0xE0, b := 0x0F, pc := 0x0001, cyclesRemaining := 1 }, []) := by decide

theorem test_A8_18 :
    ran (placed { Cpu.reset with a := 0xF0, f := 0x50, b := 0x0F } [0xA0] []) [] =
      some ({ Cpu.reset with f := 0xA0, b := 0x0F, pc := 0x0001, cyclesRemaining := 1 }, []) := by decide

theorem test_A8_20 :
    ran (placed { Cpu.reset with a := 0x5A, f := 0xF0 } [0xAF] []) [] =
      some ({ Cpu.reset with f := 0x80, pc := 0x0001, cyclesRemaining := 1 }, []) := by decide

theorem test_A8_21 :
    ran (placed { Cpu.reset with a := 0x0F } [0xEE, 0xFF] []) [] =
      some ({ Cpu.reset with a := 0xF0, pc := 0x0002, cyclesRemaining := 2 }, []) := by decide

theorem test_A8_23 :
    ran (placed { Cpu.reset with a := 0x50, f := 0xF0, b := 0x0A } [0xB0] []) [] =
      some ({ Cpu.reset with a := 0x5A, b := 0x0A, pc := 0x0001, cyclesRemaining := 1 }, []) := by decide

theorem test_A8_24 :
    ran (placed { Cpu.reset with a := 0x3C, b := 0x3C } [0xB8] []) [] =
      some ({ Cpu.reset with a := 0x3C, f := 0xC0, b := 0x3C, pc := 0x0001, cyclesRemaining := 1 }, []) := by decide

theorem test_A8_25 :
    ran (placed { Cpu.reset with a := 0x3C } [0xFE, 0x40] []) [] =
      some ({ Cpu.reset with a := 0x3C, f := 0x50, pc := 0x0002, cyclesRemaining := 2 }, []) := by decide

theorem test_A8_27 :
    ran (placed { Cpu.reset with a := 0xFF, f := 0x10 } [0x3C] []) [] =
      some ({ Cpu.reset with f := 0xB0, pc := 0x0001, cyclesRemaining := 1 }, []) := by decide

theorem test_A8_29 :
    ran (placed { Cpu.reset with h := 0xC0 } [0x34] [(0xC000, 0x7F)]) [0xC000] =
      some ({ Cpu.reset with f := 0x20, h := 0xC0, pc := 0x0001, cyclesRemaining := 3 }, [0x80]) := by decide

theorem test_A8_30 :
    ran (placed { Cpu.reset with a := 0x01, f := 0x10 } [0x3D] []) [] =
      some ({ Cpu.reset with f := 0xD0, pc := 0x0001, cyclesRemaining := 1 }, []) := by decide

theorem test_A8_31 :
    ran (placed Cpu.reset [0x05] []) [] =
      some ({ Cpu.reset with f := 0x60, b := 0xFF, pc := 0x0001, cyclesRemaining := 1 }, []) := by decide

theorem test_A8_33 :
    ran (placed { Cpu.reset with h := 0xC0 } [0x35] []) [0xC000] =
      some ({ Cpu.reset with f := 0x60, h := 0xC0, pc := 0x0001, cyclesRemaining := 3 }, [0xFF]) := by decide

theorem test_A8_34 :
    ran (placed { Cpu.reset with a := 0x7D } [0x27] []) [] =
      some ({ Cpu.reset with a := 0x83, pc := 0x0001, cyclesRemaining := 1 }, []) := by decide

theorem test_A8_35 :
    ran (placed { Cpu.reset with a := 0x9A } [0x27] []) [] =
      some ({ Cpu.reset with f := 0x90, pc := 0x0001, cyclesRemaining := 1 }, []) := by decide

theorem test_A8_41 :
    ran (placed { Cpu.reset with a := 0x35, f := 0x90 } [0x2F] []) [] =
      some ({ Cpu.reset with a := 0xCA, f := 0xF0, pc := 0x0001, cyclesRemaining := 1 }, []) := by decide

theorem test_A8_42 :
    ran (placed { Cpu.reset with f := 0xE0 } [0x37] []) [] =
      some ({ Cpu.reset with f := 0x90, pc := 0x0001, cyclesRemaining := 1 }, []) := by decide

theorem test_A8_43 :
    ran (placed { Cpu.reset with f := 0xF0 } [0x3F] []) [] =
      some ({ Cpu.reset with f := 0x80, pc := 0x0001, cyclesRemaining := 1 }, []) := by decide

theorem test_A8_44 :
    ran (placed Cpu.reset [0x3F] []) [] =
      some ({ Cpu.reset with f := 0x10, pc := 0x0001, cyclesRemaining := 1 }, []) := by decide

/-! 16-bit arithmetic: 95_test_vectors.md section 2. -/

theorem test_A16_1 :
    ran (placed { Cpu.reset with f := 0x80, c := 0x01, h := 0x0F, l := 0xFF } [0x09] []) [] =
      some ({ Cpu.reset with f := 0xA0, c := 0x01, h := 0x10, pc := 0x0001, cyclesRemaining := 2 }, []) := by decide

theorem test_A16_2 :
    ran (placed { Cpu.reset with f := 0x40, h := 0x80 } [0x29] []) [] =
      some ({ Cpu.reset with f := 0x10, pc := 0x0001, cyclesRemaining := 2 }, []) := by decide

theorem test_A16_3 :
    ran (placed { Cpu.reset with h := 0xFF, l := 0xFF, sp := 0x0001 } [0x39] []) [] =
      some ({ Cpu.reset with f := 0x30, sp := 0x0001, pc := 0x0001, cyclesRemaining := 2 }, []) := by decide

theorem test_A16_4 :
    ran (placed { Cpu.reset with f := 0xC0, d := 0x06, e := 0x05, h := 0x8A, l := 0x23 } [0x19] []) [] =
      some ({ Cpu.reset with f := 0xA0, d := 0x06, e := 0x05, h := 0x90, l := 0x28, pc := 0x0001, cyclesRemaining := 2 }, []) := by
  decide

theorem test_A16_5 :
    ran (placed { Cpu.reset with f := 0xF0, b := 0xFF, c := 0xFF } [0x03] []) [] =
      some ({ Cpu.reset with f := 0xF0, pc := 0x0001, cyclesRemaining := 2 }, []) := by decide

theorem test_A16_6 :
    ran (placed { Cpu.reset with sp := 0x00FF } [0x33] []) [] =
      some ({ Cpu.reset with sp := 0x0100, pc := 0x0001, cyclesRemaining := 2 }, []) := by decide

theorem test_A16_8 :
    ran (placed { Cpu.reset with d := 0x01 } [0x1B] []) [] =
      some ({ Cpu.reset with e := 0xFF, pc := 0x0001, cyclesRemaining := 2 }, []) := by decide

theorem test_A16_9 :
    ran (placed { Cpu.reset with f := 0xF0, sp := 0xFFF8 } [0xE8, 0x02] []) [] =
      some ({ Cpu.reset with sp := 0xFFFA, pc := 0x0002, cyclesRemaining := 4 }, []) := by decide

/-! Rotates, shifts and bits: 95_test_vectors.md section 2. -/

theorem test_RS_1 :
    ran (placed { Cpu.reset with a := 0x85, f := 0xF0 } [0x07] []) [] =
      some ({ Cpu.reset with a := 0x0B, f := 0x10, pc := 0x0001, cyclesRemaining := 1 }, []) := by decide

theorem test_RS_3 :
    ran (placed { Cpu.reset with a := 0x95, f := 0x10 } [0x17] []) [] =
      some ({ Cpu.reset with a := 0x2B, f := 0x10, pc := 0x0001, cyclesRemaining := 1 }, []) := by decide

theorem test_RS_5 :
    ran (placed { Cpu.reset with a := 0x3B } [0x0F] []) [] =
      some ({ Cpu.reset with a := 0x9D, f := 0x10, pc := 0x0001, cyclesRemaining := 1 }, []) := by decide

theorem test_RS_6 :
    ran (placed { Cpu.reset with a := 0x81 } [0x1F] []) [] =
      some ({ Cpu.reset with a := 0x40, f := 0x10, pc := 0x0001, cyclesRemaining := 1 }, []) := by decide

theorem test_RS_8 :
    ran (placed { Cpu.reset with b := 0x85, pc := 0x0001, cbPrefixPending := true } [0x00] []) [] =
      some ({ Cpu.reset with f := 0x10, b := 0x0B, pc := 0x0002, cyclesRemaining := 1 }, []) := by decide

theorem test_RS_10 :
    ran (placed { Cpu.reset with h := 0xC0, pc := 0x0001, cbPrefixPending := true } [0x06] [(0xC000, 0x80)]) [0xC000] =
      some ({ Cpu.reset with f := 0x10, h := 0xC0, pc := 0x0002, cyclesRemaining := 3 }, [0x01]) := by decide

theorem test_RS_11 :
    ran (placed { Cpu.reset with c := 0x01, pc := 0x0001, cbPrefixPending := true } [0x09] []) [] =
      some ({ Cpu.reset with f := 0x10, c := 0x80, pc := 0x0002, cyclesRemaining := 1 }, []) := by decide

theorem test_RS_12 :
    ran (placed { Cpu.reset with h := 0xC0, pc := 0x0001, cbPrefixPending := true } [0x0E] [(0xC000, 0x02)]) [0xC000] =
      some ({ Cpu.reset with h := 0xC0, pc := 0x0002, cyclesRemaining := 3 }, [0x01]) := by decide

theorem test_RS_13 :
    ran (placed { Cpu.reset with d := 0x80, pc := 0x0001, cbPrefixPending := true } [0x12] []) [] =
      some ({ Cpu.reset with f := 0x90, pc := 0x0002, cyclesRemaining := 1 }, []) := by decide

theorem test_RS_14 :
    ran (placed { Cpu.reset with f := 0x10, h := 0xC0, pc := 0x0001, cbPrefixPending := true } [0x16] [(0xC000, 0x11)])
      [0xC000] =
      some ({ Cpu.reset with h := 0xC0, pc := 0x0002, cyclesRemaining := 3 }, [0x23]) := by decide

theorem test_RS_15 :
    ran (placed { Cpu.reset with e := 0x01, pc := 0x0001, cbPrefixPending := true } [0x1B] []) [] =
      some ({ Cpu.reset with f := 0x90, pc := 0x0002, cyclesRemaining := 1 }, []) := by decide

theorem test_RS_16 :
    ran (placed { Cpu.reset with f := 0x10, h := 0xC0, pc := 0x0001, cbPrefixPending := true } [0x1E] [(0xC000, 0x8A)])
      [0xC000] =
      some ({ Cpu.reset with h := 0xC0, pc := 0x0002, cyclesRemaining := 3 }, [0xC5]) := by decide

theorem test_RS_17 :
    ran (placed { Cpu.reset with h := 0x80, pc := 0x0001, cbPrefixPending := true } [0x24] []) [] =
      some ({ Cpu.reset with f := 0x90, pc := 0x0002, cyclesRemaining := 1 }, []) := by decide

theorem test_RS_18 :
    ran (placed { Cpu.reset with h := 0xC0, pc := 0x0001, cbPrefixPending := true } [0x26] [(0xC000, 0xFF)]) [0xC000] =
      some ({ Cpu.reset with f := 0x10, h := 0xC0, pc := 0x0002, cyclesRemaining := 3 }, [0xFE]) := by decide

theorem test_RS_19 :
    ran (placed { Cpu.reset with l := 0x8A, pc := 0x0001, cbPrefixPending := true } [0x2D] []) [] =
      some ({ Cpu.reset with l := 0xC5, pc := 0x0002, cyclesRemaining := 1 }, []) := by decide

theorem test_RS_20 :
    ran (placed { Cpu.reset with h := 0xC0, pc := 0x0001, cbPrefixPending := true } [0x2E] [(0xC000, 0x01)]) [0xC000] =
      some ({ Cpu.reset with f := 0x90, h := 0xC0, pc := 0x0002, cyclesRemaining := 3 }, [0x00]) := by decide

theorem test_RS_21 :
    ran (placed { Cpu.reset with a := 0xF1, f := 0xF0, pc := 0x0001, cbPrefixPending := true } [0x37] []) [] =
      some ({ Cpu.reset with a := 0x1F, pc := 0x0002, cyclesRemaining := 1 }, []) := by decide

theorem test_RS_22 :
    ran (placed { Cpu.reset with h := 0xC0, pc := 0x0001, cbPrefixPending := true } [0x36] []) [0xC000] =
      some ({ Cpu.reset with f := 0x80, h := 0xC0, pc := 0x0002, cyclesRemaining := 3 }, [0x00]) := by decide

theorem test_RS_23 :
    ran (placed { Cpu.reset with a := 0x01, pc := 0x0001, cbPrefixPending := true } [0x3F] []) [] =
      some ({ Cpu.reset with f := 0x90, pc := 0x0002, cyclesRemaining := 1 }, []) := by decide

theorem test_RS_24 :
    ran (placed { Cpu.reset with f := 0x10, h := 0xC0, pc := 0x0001, cbPrefixPending := true } [0x3E] [(0xC000, 0xFF)])
      [0xC000] =
      some ({ Cpu.reset with f := 0x10, h := 0xC0, pc := 0x0002, cyclesRemaining := 3 }, [0x7F]) := by decide

theorem test_RS_26 :
    ran (placed { Cpu.reset with f := 0x40, l := 0xEF, pc := 0x0001, cbPrefixPending := true } [0x65] []) [] =
      some ({ Cpu.reset with f := 0xA0, l := 0xEF, pc := 0x0002, cyclesRemaining := 1 }, []) := by decide

theorem test_RS_27 :
    ran (placed { Cpu.reset with f := 0x10, h := 0xC0, pc := 0x0001, cbPrefixPending := true } [0x46] [(0xC000, 0xFE)])
      [] =
      some ({ Cpu.reset with f := 0xB0, h := 0xC0, pc := 0x0002, cyclesRemaining := 2 }, []) := by decide

theorem test_RS_29 :
    ran (placed { Cpu.reset with a := 0xFF, f := 0xF0, pc := 0x0001, cbPrefixPending := true } [0x87] []) [] =
      some ({ Cpu.reset with a := 0xFE, f := 0xF0, pc := 0x0002, cyclesRemaining := 1 }, []) := by decide

theorem test_RS_30 :
    ran (placed { Cpu.reset with h := 0xC0, pc := 0x0001, cbPrefixPending := true } [0x9E] [(0xC000, 0xFF)]) [0xC000] =
      some ({ Cpu.reset with h := 0xC0, pc := 0x0002, cyclesRemaining := 3 }, [0xF7]) := by decide

theorem test_RS_31 :
    ran (placed { Cpu.reset with f := 0x50, pc := 0x0001, cbPrefixPending := true } [0xF8] []) [] =
      some ({ Cpu.reset with f := 0x50, b := 0x80, pc := 0x0002, cyclesRemaining := 1 }, []) := by decide

theorem test_RS_32 :
    ran (placed { Cpu.reset with h := 0xC0, pc := 0x0001, cbPrefixPending := true } [0xDE] []) [0xC000] =
      some ({ Cpu.reset with h := 0xC0, pc := 0x0002, cyclesRemaining := 3 }, [0x08]) := by decide

/-! Control transfer: 95_test_vectors.md section 2. -/

theorem test_CT_1 :
    ran (placed Cpu.reset [0xC3, 0x50, 0x01] []) [] =
      some ({ Cpu.reset with pc := 0x0150, cyclesRemaining := 4 }, []) := by decide

theorem test_CT_2 :
    ran (placed { Cpu.reset with f := 0x80 } [0xC2, 0x00, 0x80] []) [] =
      some ({ Cpu.reset with f := 0x80, pc := 0x0003, cyclesRemaining := 3 }, []) := by decide

theorem test_CT_3 :
    ran (placed Cpu.reset [0xC2, 0x00, 0x80] []) [] =
      some ({ Cpu.reset with pc := 0x8000, cyclesRemaining := 4 }, []) := by decide

theorem test_CT_5 :
    ran (placed { Cpu.reset with h := 0xC0 } [0xE9] []) [] =
      some ({ Cpu.reset with h := 0xC0, pc := 0xC000, cyclesRemaining := 1 }, []) := by decide

theorem test_CT_10 :
    ran (placed { Cpu.reset with pc := 0x0105 } [0x20, 0xFB] []) [] =
      some ({ Cpu.reset with pc := 0x0102, cyclesRemaining := 3 }, []) := by decide

theorem test_CT_11 :
    ran (placed { Cpu.reset with f := 0x80, pc := 0x0105 } [0x20, 0xFB] []) [] =
      some ({ Cpu.reset with f := 0x80, pc := 0x0107, cyclesRemaining := 2 }, []) := by decide

theorem test_CT_13 :
    ran (placed { Cpu.reset with sp := 0xFFFE, pc := 0x0150 } [0xCD, 0x00, 0x02] []) [0xFFFC, 0xFFFD] =
      some ({ Cpu.reset with sp := 0xFFFC, pc := 0x0200, cyclesRemaining := 6 }, [0x53, 0x01]) := by decide

theorem test_CT_14 :
    ran (placed { Cpu.reset with sp := 0xFFFE, pc := 0x0150 } [0xCC, 0x00, 0x02] []) [0xFFFC, 0xFFFD] =
      some ({ Cpu.reset with sp := 0xFFFE, pc := 0x0153, cyclesRemaining := 3 }, [0x00, 0x00]) := by decide

theorem test_CT_15 :
    ran (placed { Cpu.reset with sp := 0xFFFE, pc := 0x0150 } [0xD4, 0x00, 0x02] []) [0xFFFC, 0xFFFD] =
      some ({ Cpu.reset with sp := 0xFFFC, pc := 0x0200, cyclesRemaining := 6 }, [0x53, 0x01]) := by decide

theorem test_CT_16 :
    ran (placed { Cpu.reset with sp := 0xFFFC, pc := 0x0200 } [0xC9] [(0xFFFC, 0x53), (0xFFFD, 0x01)]) [] =
      some ({ Cpu.reset with sp := 0xFFFE, pc := 0x0153, cyclesRemaining := 4 }, []) := by decide

theorem test_CT_17 :
    ran (placed { Cpu.reset with f := 0x80, sp := 0xFFFC, pc := 0x0200 } [0xC8] [(0xFFFC, 0x53), (0xFFFD, 0x01)]) [] =
      some ({ Cpu.reset with f := 0x80, sp := 0xFFFE, pc := 0x0153, cyclesRemaining := 5 }, []) := by decide

theorem test_CT_18 :
    ran (placed { Cpu.reset with sp := 0xFFFC, pc := 0x0200 } [0xC8] [(0xFFFC, 0x53), (0xFFFD, 0x01)]) [] =
      some ({ Cpu.reset with sp := 0xFFFC, pc := 0x0201, cyclesRemaining := 2 }, []) := by decide

theorem test_CT_19 :
    ran (placed { Cpu.reset with sp := 0xFFFC, pc := 0x0050 } [0xD9] [(0xFFFC, 0x53), (0xFFFD, 0x01)]) [] =
      some ({ Cpu.reset with sp := 0xFFFE, pc := 0x0153, ime := true, cyclesRemaining := 4 }, []) := by decide

theorem test_CT_20 :
    ran (placed { Cpu.reset with sp := 0xC002, pc := 0x1234 } [0xFF] []) [0xC000, 0xC001] =
      some ({ Cpu.reset with sp := 0xC000, pc := 0x0038, cyclesRemaining := 4 }, [0x35, 0x12]) := by decide

/-! System: 95_test_vectors.md section 2. -/

theorem test_MS_1 :
    ran (placed Cpu.reset [0x00] []) [] =
      some ({ Cpu.reset with pc := 0x0001, cyclesRemaining := 1 }, []) := by decide

theorem test_MS_3 :
    ran (placed Cpu.reset [0x10, 0xD3] []) [] =
      some ({ Cpu.reset with pc := 0x0002, cyclesRemaining := 1 }, []) := by decide

theorem test_MS_4 :
    ran (placed { Cpu.reset with ime := true } [0xF3] []) [] =
      some ({ Cpu.reset with pc := 0x0001, cyclesRemaining := 1 }, []) := by decide

theorem test_MS_5 :
    ran (placed Cpu.reset [0xFB] []) [] =
      some ({ Cpu.reset with pc := 0x0001, ime := true, cyclesRemaining := 1 }, []) := by decide

theorem test_MS_6 :
    ran (placed Cpu.reset [0xCB] []) [] =
      some ({ Cpu.reset with pc := 0x0001, cyclesRemaining := 1, cbPrefixPending := true }, []) := by decide

/-! Interrupts, HALT, the prefix and faults: 95_test_vectors.md section 4. -/

/-- The start of IRQ-1. -/
def irq1 : State :=
  { placed { Cpu.reset with sp := 0xFFFE, pc := 0x0150, ime := true } [0x00] [] with irq := { iflag := 0x05, ie := 0x05 } }

theorem test_IRQ_1 :
    ran irq1 [0xFFFC, 0xFFFD, 0xFF0F] =
      some ({ Cpu.reset with sp := 0xFFFC, pc := 0x0040, cyclesRemaining := 5 }, [0x50, 0x01, 0x04]) := by decide

theorem test_IRQ_2 :
    ran { irq1 with cpu := { irq1.cpu with ime := false } } [0xFF0F] =
      some ({ Cpu.reset with sp := 0xFFFE, pc := 0x0151 }, [0x05]) := by decide

/-- Tick 7 of IRQ-5: the handler's first byte is looked up in the CB table. -/
theorem test_IRQ_5 :
    ran (placed { Cpu.reset with a := 0xF1, b := 0x81, sp := 0xFFFC, pc := 0x0040, cbPrefixPending := true } [0x00] []) [] =
      some ({ Cpu.reset with a := 0xF1, f := 0x10, b := 0x03, sp := 0xFFFC, pc := 0x0041 }, []) := by decide

/-- Tick 4 of IRQ-8: wake and service in one step. -/
theorem test_IRQ_8 :
    ran { placed { Cpu.reset with sp := 0xFFFE, pc := 0x0101, ime := true, halted := true } [] [] with
          irq := { iflag := 0x10, ie := 0x10 } } [0xFFFC, 0xFFFD, 0xFF0F] =
      some ({ Cpu.reset with sp := 0xFFFC, pc := 0x0060, cyclesRemaining := 5 }, [0x01, 0x01, 0x00]) := by decide

/-- The start of tick 5 of IRQ-9: awake without `ime`, `INC A` fetched, IF kept. -/
def irq9 : State :=
  { placed { Cpu.reset with sp := 0xFFFE, pc := 0x0101, halted := true } [0x3C] [] with irq := { iflag := 0x04, ie := 0x04 } }

theorem test_IRQ_9 :
    ran irq9 [0xFF0F] = some ({ Cpu.reset with a := 0x01, sp := 0xFFFE, pc := 0x0102 }, [0x04]) := by decide

/-- IRQ-4: bits 7:5 take no part, a halted CPU goes on waiting. -/
theorem test_IRQ_4 :
    ran { placed { Cpu.reset with sp := 0xFFFE, pc := 0x0001, ime := true, halted := true } [] [] with
          irq := { iflag := 0xE0, ie := 0xFF } } [] =
      some ({ Cpu.reset with sp := 0xFFFE, pc := 0x0001, ime := true, halted := true }, []) := by decide

theorem test_MS_FD3 :
    step (placed { Cpu.reset with a := 0x12, sp := 0xFFFE, pc := 0x0150 } [0xD3] []) = .fault (.decodeFault 0xD3 0x0150) := by
  rfl

/-! The timer: 95_test_vectors.md section 5. -/

/-- TM-1: TIMA 0xFE, two falling edges (8 ticks) with TMA 0x10, one request. -/
theorem test_TM_1 :
    let s : State := { State.reset with timer := { fullDiv := 0, timerPrev := false, tima := 0xFE, tma := 0x10, tac := 0x05 } }
    ((timerStep^[4] s).timer.tima, (timerStep^[4] s).irq.iflag, (timerStep^[8] s).timer.tima,
      (timerStep^[8] s).irq.iflag) = (0xFF, 0x00, 0x10, 0x04) := by decide

/-- TM-6: a stale sample of 1 ticks TIMA when the timer is enabled again (R283). -/
theorem test_TM_6 :
    (timerStep { State.reset with
      timer := { fullDiv := 0x0010, timerPrev := true, tima := 0x20, tma := 0x00, tac := 0x05 } }).timer.tima = 0x21 := by
  decide

/-! Memory and the I/O page: 95_test_vectors.md section 7. -/

theorem test_M_2_vram_closed :
    memRead .data { State.reset with mem := [(0x8000, 0x42)], ppu := { Ppu.reset with mode := .pixelTransfer } } 0x8000 =
      0xFF := by decide
theorem test_M_2_oam_closed :
    memRead .data { State.reset with mem := [(0xFE00, 0x42)] } 0xFE00 = 0xFF := by decide
theorem test_M_4_echo : (memWrite State.reset 0xE123 0x77).mem = [(0xC123, 0x77)] := by decide
theorem test_M_5_overlay :
    let s := { loadRom (loadBootRom State.reset [0x31]) [0xAA] with ppu := Ppu.reset }
    (memRead .data s 0x0000, memRead .data (memWrite s 0xFF50 0x00) 0x0000) = (0x31, 0xAA) := by decide
/-- R31, R52: STAT reads the enables, LY = LYC and the mode; bit 7 reads 0. -/
theorem test_stat_read : memRead .data (memWrite State.reset 0xFF41 0xFF) 0xFF41 = 0x7E := by decide
/-- R26: a write of any value clears the divider. -/
theorem test_div_write :
    (memWrite { State.reset with timer := { State.reset.timer with fullDiv := 0x1234 } } 0xFF04 0x55).timer.fullDiv = 0 := by
  decide
/-- Canonical form: writing what an unlisted byte reads as removes the entry. -/
theorem test_canonical : (memWrite (memWrite State.reset 0xC000 0x01) 0xC000 0x00).mem = [] := by decide

/-! The PPU: 95_test_vectors.md section 6 and 60_exceptions.md. -/

/-- The last tick of HBlank on line 143. -/
def beforeVBlank : State :=
  { State.reset with ppu := { Ppu.reset with ly := 143, mode := .hBlank, lineCycle := 113, modeCycleCounter := 50 } }

/-- PP-1: line 144 begins VBlank and requests source 0 (R320). -/
theorem test_PP_1_vblank :
    let t := ppuStep beforeVBlank
    (t.ppu.ly, t.ppu.mode, t.ppu.lineCycle, t.irq.iflag) = (144, .vBlank, 0, 0x01) := by decide

/-- PP-1: LY wraps from 153 to 0 and the frame is ready (R326). -/
theorem test_PP_1_wrap :
    let t := ppuStep { State.reset with ppu := { Ppu.reset with ly := 153, mode := .vBlank, lineCycle := 113, modeCycleCounter := 113 } }
    (t.ppu.ly, t.ppu.mode, t.ppu.frameReady, t.irq.iflag) = (0, .oamSearch, true, 0x00) := by decide

/-- PP-3: LYC = LY with its enable raises the STAT line once (R322). -/
theorem test_PP_3 :
    let s : State := { State.reset with ppu := { Ppu.reset with statEn := 0b1000 } }
    ((ppuStep s).irq.iflag, (statUpdate { ppuStep s with irq := { iflag := 0, ie := 0 } }).irq.iflag) = (0x02, 0x00) := by
  decide

/-- R305: the eleventh object on a line is not found, and ties keep OAM order. Twelve objects at Y 16, X 8. -/
def twelve : State :=
  { State.reset with
    mem := (List.range 12).flatMap (fun k => [(0xFE00 + 4 * k, 0x10), (0xFE01 + 4 * k, 0x08)]) }

theorem test_PP_9 :
    (oamSearchRun twelve).ppu.visible.map (fun v => (v.index.val, v.screenX)) = (List.range 10).map (fun k => (k, 0)) := by
  decide

/-- R313: signed tile addressing takes id 0x80 from 0x8800 (PP-7). -/
theorem test_PP_7 :
    tileRow { State.reset with mem := [(0x8800, 0xF0), (0x8801, 0xFF), (0x9800, 0x80)] } = [3, 3, 3, 3, 2, 2, 2, 2] := by
  decide

/-- R316: an object behind the background loses against a background colour other than 0 and wins against 0. -/
theorem test_mixing :
    let p : Ppu := { Ppu.reset with bgp := 0xE4, obp1 := 0x40, oamFifo := [{ colour := 3, palette := true, priority := true }] }
    (mixShade p 2, mixShade p 0) = (2, 1) := by decide

/-! Witnesses. -/

/-- Whether an outcome is a next state. -/
def goesOn : Result → Bool
  | .next _ => true
  | .fault _ => false
  | .refused _ => false

theorem next_of {r : Result} (h : goesOn r = true) : ∃ t, r = .next t := by
  cases r with
  | next t => exact ⟨t, rfl⟩
  | fault r => exact absurd h Bool.false_ne_true
  | refused r => exact absurd h Bool.false_ne_true

/-- A machine in the middle of a program in work RAM: `LD A,0x01` at PC. -/
def busy : State := placed { Cpu.reset with f := 0x90, sp := 0xFFFE, pc := 0xC000, h := 0xC1 } [0x3E, 0x01] []

theorem busy_inv : Inv busy :=
  ⟨by decide, by decide, by decide, by decide, ⟨by decide, by decide, by decide⟩,
    ⟨by decide, by decide, by decide, .nil, by decide, by decide⟩, by decide, nofun, by decide, by decide⟩

/-- A state in PixelTransfer, drawing. -/
def drawing : State :=
  { busy with ppu := { Ppu.reset with mode := .pixelTransfer, lineCycle := 21, modeCycleCounter := 1, drawX := 4, bgFifo := [1, 2] } }

theorem drawing_inv : Inv drawing :=
  ⟨by decide, by decide, by decide, by decide, ⟨by decide, by decide, .inr (by decide)⟩,
    ⟨by decide, by decide, by decide, .nil, by decide, by decide⟩, by decide, nofun, by decide, by decide⟩

theorem before_v_blank_inv : Inv beforeVBlank :=
  ⟨by decide, by decide, by decide, by decide, ⟨by decide, by decide, by decide, by decide⟩,
    ⟨by decide, by decide, by decide, .nil, by decide, by decide⟩, by decide, nofun, by decide, by decide⟩

theorem busy_steps : ∃ t, step busy = .next t := next_of (by decide)

theorem drawing_steps : ∃ t, step drawing = .next t := next_of (by decide)

theorem witness_EncodeDecode : decode .main [0x3E, 0x01, 0x02] = .ok (.ld_a_d8 0x01, [0x02]) := by rfl

theorem witness_UnassignedOpcodes : (0xD3 : Byte) ∈ unassignedBytes ∧ (0xFD : Byte) ∈ unassignedBytes := by decide

theorem witness_StepRunsDecodedInstruction :
    2 ≤ busy.params.pixelItersPerTick ∧ AtFetch busy ∧ ¬(busy.cpu.ime = true ∧ busy.pending ≠ 0) ∧
      decode (if busy.cpu.cbPrefixPending then .cb else .main)
        [memRead .opcode busy busy.cpu.pc, memRead .operand1 busy (busy.cpu.pc + 1),
          memRead .operand2 busy (busy.cpu.pc + 2)] = .ok (.ld_a_d8 0x01, [0x00]) :=
  ⟨by decide, ⟨by decide, by decide⟩, by decide, by rfl⟩

/-- The same after a prefix, in the CB table. -/
theorem witness_StepRunsDecodedInstruction_cb :
    let s := { busy with cpu := { busy.cpu with cbPrefixPending := true } }
    2 ≤ s.params.pixelItersPerTick ∧ AtFetch s ∧ ¬(s.cpu.ime = true ∧ s.pending ≠ 0) ∧
      decode (if s.cpu.cbPrefixPending then .cb else .main)
        [memRead .opcode s s.cpu.pc, memRead .operand1 s (s.cpu.pc + 1), memRead .operand2 s (s.cpu.pc + 2)] =
          .ok (.srl_atHl, [0x01, 0x00]) :=
  ⟨by decide, ⟨by decide, by decide⟩, by decide, by rfl⟩

/-- One state for each clause: idle, counting down (in flight, and halted with a request), woken. -/
theorem witness_WaitingAndWaking :
    (let s := { busy with cpu := { busy.cpu with halted := true } };
      s.cpu.halted = true ∧ s.pending = 0) ∧
    (let s := { busy with cpu := { busy.cpu with cyclesRemaining := 6 } };
      (s.cpu.halted = false ∨ s.pending ≠ 0) ∧ s.cpu.cyclesRemaining ≠ 1) ∧
    (let s := { irq9 with cpu := { irq9.cpu with cyclesRemaining := 2 } };
      (s.cpu.halted = false ∨ s.pending ≠ 0) ∧ s.cpu.cyclesRemaining ≠ 1) ∧
    (irq9.cpu.halted = true ∧ irq9.cpu.cyclesRemaining = 1 ∧ irq9.pending ≠ 0 ∧ irq9.cpu.ime = false) := by decide

theorem witness_ServiceTakesLeastPending : AtFetch irq1 ∧ irq1.cpu.ime = true ∧ irq1.pending ≠ 0 :=
  ⟨⟨by decide, by decide⟩, by decide, by decide⟩

/-- The highest stack in HRAM, and one whose two bytes are the last of work RAM and the first of the echo. -/
theorem witness_ReturnsUndoCalls :
    (plainByte irq1 (irq1.cpu.sp - 2) = true ∧ plainByte irq1 (irq1.cpu.sp - 1) = true ∧ irq1.cpu.ime = true) ∧
    (let s := irq1.setSp 0xE001;
      plainByte s (s.cpu.sp - 2) = true ∧ plainByte s (s.cpu.sp - 1) = true ∧ s.cpu.ime = true) := by decide

/-- Both sides of the equivalence: an unassigned byte, `STOP` where it faults, and a byte that does not fault. -/
theorem witness_StepFaultsExactlyWhen :
    (let s := placed { Cpu.reset with pc := 0x0150 } [0xD3] [];
      2 ≤ s.params.pixelItersPerTick ∧ step s = .fault (.decodeFault 0xD3 0x0150)) ∧
    (let s := { placed Cpu.reset [0x10] [] with params := { stopBehaviour := .fault, pixelItersPerTick := 2 } };
      2 ≤ s.params.pixelItersPerTick ∧ step s = .fault (.decodeFault 0x10 0x0000)) ∧
    ∃ t, step busy = .next t :=
  ⟨⟨by decide, by rfl⟩, ⟨by decide, by rfl⟩, busy_steps⟩

/-- Both sides of the equivalence. -/
theorem witness_StepRefusesExactlyWhen :
    (let s := { State.reset with params := { stopBehaviour := .nop2, pixelItersPerTick := 1 } };
      s.params.pixelItersPerTick < 2 ∧ step s = .refused .pixelRateBelowTwo) ∧
    ∃ t, step busy = .next t := ⟨⟨by decide, by rfl⟩, busy_steps⟩

theorem witness_InvStep :
    (Inv busy ∧ ∃ t, step busy = .next t) ∧ (Inv drawing ∧ ∃ t, step drawing = .next t) ∧
      (Inv beforeVBlank ∧ ∃ t, step beforeVBlank = .next t) :=
  ⟨⟨busy_inv, busy_steps⟩, ⟨drawing_inv, drawing_steps⟩, before_v_blank_inv, next_of (by decide)⟩

theorem witness_RegisterOperands : StackPair.bc ≠ .af := by decide

/-- Every form of the operand, for an operation of each statement. -/
theorem witness_AluOperand :
    AluOperand .add busy .add_a_b busy.cpu.b 1 1 ∧ AluOperand .adc busy .adc_a_atHl (memRead .data busy busy.cpu.hl) 1 2 ∧
      AluOperand .sub busy .sub_a_a busy.cpu.a 1 1 ∧ AluOperand .sbc busy (.sbc_a_d8 0xFF) 0xFF 2 2 ∧
      AluOperand .cp busy (.cp_a_d8 0x00) 0x00 2 2 ∧ AluOperand .and busy (.and_a_d8 0x0F) 0x0F 2 2 ∧
      AluOperand .xor busy .xor_a_atHl (memRead .data busy busy.cpu.hl) 1 2 ∧ AluOperand .or busy .or_a_l busy.cpu.l 1 1 :=
  ⟨.reg .b, .atHl, .reg .a, .imm 0xFF, .imm 0x00, .imm 0x0F, .atHl, .reg .l⟩

theorem witness_DecimalArithmetic :
    let s := { busy with cpu := { busy.cpu with a := 0x99 } }
    99 < 100 ∧ 0 < 100 ∧ s.cpu.a = bcdByte 99 := by decide

theorem witness_SystemInstructions :
    [StopBehaviour.nop2, .halt, .fault].map (fun b =>
      { busy with params := { busy.params with stopBehaviour := b } }.params.stopBehaviour) = [.nop2, .halt, .fault] := by
  decide

theorem witness_FrameWithoutStores : 
    (∃ t, exec (.add_sp_e 0x01) busy = .next t) ∧ storedAt (.add_sp_e 0x01) busy = [] :=
  ⟨next_of (by decide), by decide⟩

/-- A store, and an address it does not touch: the byte below, the byte at 0x4000, and STAT. -/
theorem witness_FrameWithStores :
    (∃ t, exec .push_af busy = .next t) ∧
      storedAt .push_af busy = [0xFFFC, 0xFFFD] ∧
      ([0xFFFB, 0xFFFE, 0x4000, 0xFF41] : List Word).all (fun b => !mayChange 0xFFFC b && !mayChange 0xFFFD b) = true :=
  ⟨next_of (by decide), by decide, by decide⟩

theorem witness_FrameWithStores_devices :
    0xFF04 ∉ storedAt .push_af busy ∧ 0xFF50 ∉ storedAt .push_af busy ∧
      0xFF04 ∈ storedAt (.ldh_atA8_a 0x04) busy := by decide

theorem witness_FlagWriters :
    (encode .scf = [0x37] ∧ ∃ t, exec .scf busy = .next t) ∧
      encode .bit_7_h = [0x7C] ∧ ∃ t, exec .bit_7_h busy = .next t :=
  ⟨⟨by decide, next_of (by decide)⟩, by decide, next_of (by decide)⟩

theorem witness_WritesOfFClearLowNibble : ∃ t, exec .pop_af busy = .next t := next_of (by decide)

theorem witness_CostsAndAdvance :
    (∃ t, exec (.ld_atA16_sp 0xC100) busy = .next t) ∧ setsPc (.ld_atA16_sp 0xC100) = false :=
  ⟨next_of (by decide), by decide⟩

/-- An instruction that writes each of the four. -/
theorem witness_ControlStateWriters :
    (∃ t, exec .ei busy = .next t ∧ t.cpu.ime ≠ busy.cpu.ime) ∧
    (∃ t, exec .halt busy = .next t ∧ t.cpu.halted ≠ busy.cpu.halted) ∧
    (∃ t, exec .prefix_cb busy = .next t ∧ t.cpu.cbPrefixPending ≠ busy.cpu.cbPrefixPending) ∧
    (∃ t, exec .push_bc busy = .next t ∧ t.cpu.sp ≠ busy.cpu.sp) :=
  ⟨⟨_, rfl, by decide⟩, ⟨_, rfl, by decide⟩, ⟨_, rfl, by decide⟩, _, rfl, by decide⟩

theorem witness_RomNeverChanges : (0x7FFF : Word).toNat < 0x8000 ∧ ∃ t, step busy = .next t := ⟨by decide, busy_steps⟩

/-- The first and the last address of every clause, and each side of the overlay. -/
theorem witness_AccessTables :
    (let s := loadBootRom State.reset [0x31];
      s.bootRom = some [(0, 0x31)] ∧ s.bootOverlay = true ∧ (0x00FF : Word).toNat < 0x100) ∧
    (State.reset.bootRom = none ∧ (0x0000 : Word).toNat < 0x8000) ∧
    (let s := { loadBootRom State.reset [0x31] with bootOverlay := false };
      s.bootOverlay = false ∧ (0x0000 : Word).toNat < 0x8000) ∧
    (0x100 ≤ (0x0100 : Word).toNat ∧ (0x7FFF : Word).toNat < 0x8000) ∧
    (0x8000 ≤ (0x8000 : Word).toNat ∧ (0x9FFF : Word).toNat < 0xA000) ∧
    (0xA000 ≤ (0xA000 : Word).toNat ∧ (0xBFFF : Word).toNat < 0xC000) ∧
    (0xC000 ≤ (0xC000 : Word).toNat ∧ (0xDFFF : Word).toNat < 0xE000) ∧
    (0xE000 ≤ (0xE000 : Word).toNat ∧ (0xFDFF : Word).toNat < 0xFE00) ∧
    (0xFE00 ≤ (0xFE00 : Word).toNat ∧ (0xFE9F : Word).toNat < 0xFEA0) ∧
    (0xFEA0 ≤ (0xFEA0 : Word).toNat ∧ (0xFEFF : Word).toNat < 0xFF00) ∧
    (0xFF80 ≤ (0xFF80 : Word).toNat ∧ (0xFFFE : Word).toNat < 0xFFFF) ∧ (0xFFFF : Word).toNat = 0xFFFF := by decide

/-- Unlisted addresses at both ends of the page and between two registers; 0xFF50 has no read row. -/
theorem witness_IoRegisters :
    ([0xFF00, 0xFF03, 0xFF08, 0xFF46, 0xFF50, 0xFF7F] : List Word).all (fun addr => decide (
      0xFF00 ≤ addr.toNat ∧ addr.toNat < 0xFF80 ∧
      addr ∉ ([0xFF04, 0xFF05, 0xFF06, 0xFF07, 0xFF0F, 0xFF40, 0xFF41, 0xFF42, 0xFF43, 0xFF44, 0xFF45, 0xFF47, 0xFF48,
        0xFF49, 0xFF4A, 0xFF4B] : List Word))) = true := by decide

theorem witness_RamReadsBack :
    (0xFF80 ≤ (0xFF80 : Word).toNat ∧ (0xFFFE : Word).toNat < 0xFFFF) ∧
      0xE000 ≤ (0xE000 : Word).toNat ∧ (0xFDFF : Word).toNat < 0xFE00 := by decide

/-- The two highest bytes of HRAM, work RAM and the echo, and VRAM while it is open. -/
theorem witness_WordAccess :
    ([0xFFFD, 0xDFFF, 0x8000] : List Word).all (fun addr => plainByte busy addr && plainByte busy (addr + 1)) = true := by
  decide

/-- One timer for each clause: off; on without a falling edge; on with one, TIMA below and at 0xFF. -/
theorem witness_TimerStepRule :
    let at_ (tac tima : Byte) (prev : Bool) : State :=
      { busy with timer := { fullDiv := 0x000C, timerPrev := prev, tima := tima, tma := 0x10, tac := tac } }
    let cur (s : State) := (s.timer.fullDiv + 4).getLsbD ([9, 3, 5, 7].getD (s.timer.tac.toNat % 4) 0)
    (at_ 0x01 0x00 true).timer.tac.getLsbD 2 = false ∧
    ((at_ 0x05 0x00 false).timer.tac.getLsbD 2 = true ∧
      ¬((at_ 0x05 0x00 false).timer.timerPrev = true ∧ cur (at_ 0x05 0x00 false) = false)) ∧
    ((at_ 0x05 0xFE true).timer.tac.getLsbD 2 = true ∧ (at_ 0x05 0xFE true).timer.timerPrev = true ∧
      cur (at_ 0x05 0xFE true) = false ∧ (at_ 0x05 0xFE true).timer.tima ≠ 0xFF) ∧
    ((at_ 0x05 0xFF true).timer.tac.getLsbD 2 = true ∧ (at_ 0x05 0xFF true).timer.timerPrev = true ∧
      cur (at_ 0x05 0xFF true) = false ∧ (at_ 0x05 0xFF true).timer.tima = 0xFF) := by decide

/-- One timer for each select value. -/
theorem witness_TimaPeriod :
    ∀ row ∈ ([(0x04, 9, 256), (0x05, 3, 4), (0x06, 5, 16), (0x07, 7, 64)] : List (Byte × Nat × Nat)),
      let s : State := { busy with timer := { fullDiv := 0xFFFC, timerPrev := true, tima := 0xFE, tma := 0x00, tac := row.1 } }
      (row.2.1, row.2.2) = [(9, 256), (3, 4), (5, 16), (7, 64)].getD (s.timer.tac.toNat % 4) (0, 0) ∧
        s.timer.tac.getLsbD 2 = true ∧ s.timer.fullDiv.toNat % 4 = 0 ∧
        s.timer.timerPrev = s.timer.fullDiv.getLsbD row.2.1 ∧ s.timer.tima ≠ 0xFF := by decide

theorem witness_MergeSpriteRule : 0 < 8 ∧ 7 < 8 := by decide

theorem witness_Mixing :
    let s : State := { drawing with ppu := { drawing.ppu with ly := 143, drawX := 159 } }
    s.ppu.ly.toNat < 144 ∧ s.ppu.drawX < 160 ∧ (158, 143) ≠ (s.ppu.drawX, s.ppu.ly.toNat) := by decide

/-- An ordinary step, and the one that makes LY 144. -/
theorem witness_PpuRequestsExactly :
    Inv busy ∧ Inv beforeVBlank ∧ beforeVBlank.ppu.ly = 143 ∧ (ppuStep beforeVBlank).ppu.ly = 144 :=
  ⟨busy_inv, before_v_blank_inv, by decide, by decide⟩

theorem witness_FrameLasts17556Ticks : Inv drawing ∧ ∃ t, core.run 1 drawing = .next t :=
  ⟨drawing_inv, next_of (by decide)⟩

theorem witness_ModeByLinePosition :
    Inv drawing ∧ 4 ≤ drawing.params.pixelItersPerTick ∧ ∃ t, step drawing = .next t := 
  ⟨drawing_inv, by decide, drawing_steps⟩

theorem witness_PpuWritesOnlyItsRow : 159 < 160 ∧ 1 ≠ drawing.ppu.ly.toNat := by decide

end Sys2Proof.Tests
end

section
/-! The family 00_scope.md. A step as `exec` of the decoded instruction and then the agents; interrupt requests stay. -/

namespace Sys2Proof.Machine

/-! A step at a fetch point. -/

/-- At a fetch point where no interrupt is serviced, `CpuStep` runs the fetched instruction (60_exceptions.md R250). -/
theorem cpuStep_of_atFetch {s : State} (hf : AtFetch s) (hi : ¬(s.cpu.ime = true ∧ s.pending ≠ 0)) :
    cpuStep s = exec s.fetched (toFetch s) := by
  obtain ⟨awake, last⟩ := hf
  rcases cpuStep_cases s with ⟨halted, none, -⟩ | ⟨-, more, -⟩ | ⟨-, serviced, -⟩ | ⟨-, -, e⟩
  · exact absurd ⟨halted, none⟩ awake
  · exact absurd last more
  · exact absurd serviced hi
  · exact e

/-- The instruction at PC is the one the fetched bytes decode to. -/
theorem fetched_of_decode {s : State} {i : Instr} {rest : List Byte}
    (h : decode s.fetchTable s.fetchBytes = .ok (i, rest)) : s.fetched = i := by
  obtain ⟨rest', e⟩ : ∃ rest', decode s.fetchTable s.fetchBytes = .ok (s.fetched, rest') := decode_fetched _ _ _ _
  rw [e] at h
  cases h
  rfl

/-- Settles O6: `CpuStep` is `exec` of the decoded instruction, and the step goes on exactly where `exec` does. -/
theorem stepRunsDecodedInstruction : Obligations.StepRunsDecodedInstruction := by
  intro s i rest h2 hf hi hd
  have hc : cpuStep s = exec i (toFetch s) := fetched_of_decode hd ▸ cpuStep_of_atFetch hf hi
  cases he : exec i (toFetch s) with
  | next t => exact step_of_cpuStep h2 (hc.trans he)
  | fault r => exact (step_fault_iff s r h2).mpr (hc.trans he)
  | refused r => exact absurd he (exec_not_refused i _ r)

/-! The pixel pipeline's frame, in every state. -/

theorem PixelFrame.irq {s t : State} (h : PixelFrame s t) : t.irq = s.irq := by rw [h]

theorem mergeSprite_foldl_frame (vs : List VisibleSprite) (s : State) :
    PixelFrame s (vs.foldl (fun t v => mergeSprite t v.index) s) := by
  induction vs generalizing s with
  | nil => exact .rfl
  | cons v vs ih => exact (mergeSprite_frame s v.index).trans (ih (mergeSprite s v.index))

theorem mergeSprites_frame (s : State) : PixelFrame s (mergeSprites s) := by
  unfold mergeSprites
  split
  · exact mergeSprite_foldl_frame _ s
  · exact .rfl

theorem pixelIteration_frame (s : State) : PixelFrame s (pixelIteration s) := by
  have fetch := (startWindow_frame s).trans (refillBackground_frame _)
  unfold pixelIteration
  generalize refillBackground (startWindow s) = t at fetch ⊢
  dsimp only
  cases t.ppu.bgFifo with
  | nil => exact fetch
  | cons bg rest =>
    have pop : PixelFrame s (t.setPpu { t.ppu with bgFifo := rest }) := fetch.trans (.setPpu rfl)
    dsimp only
    split
    · exact pop.trans (.setPpu rfl)
    · exact (pop.trans (mergeSprites_frame _)).trans (commitPixel_frame _ bg)

theorem pixelIterations_frame (n : Nat) (s : State) : PixelFrame s (pixelIterations n s) := by
  induction n generalizing s with
  | zero => exact .rfl
  | succ n ih =>
    unfold pixelIterations
    split
    · exact (pixelIteration_frame s).trans (ih _)
    · exact ih s

/-! Requests are latched. -/

/-- From `s` to `t` no bit of IF is cleared and IE is not written (60_exceptions.md R261, R262). -/
structure Latched (s t : State) : Prop where
  ie : t.irq.ie = s.irq.ie
  iflag : s.irq.iflag &&& t.irq.iflag = s.irq.iflag

theorem Latched.of_irq_eq {s t : State} (h : t.irq = s.irq) : Latched s t := ⟨by rw [h], by rw [h, BitVec.and_self]⟩

theorem setPpu_latched (s : State) (p : Ppu) : Latched s (s.setPpu p) := .of_irq_eq rfl

theorem Latched.trans {s t u : State} (h : Latched s t) (h' : Latched t u) : Latched s u where
  ie := h'.ie.trans h.ie
  iflag := by rw [← h.iflag, BitVec.and_assoc, h'.iflag]

theorem request_latched (s : State) (source : Fin 5) : Latched s (s.request source) where
  ie := by rw [State.request_irq]
  iflag := by
    rw [State.request_irq]
    ext b
    simp +contextual

theorem Latched.request {s t : State} (h : Latched s t) (source : Fin 5) : Latched s (t.request source) :=
  h.trans (request_latched t source)

theorem pixelTransferMode_latched (s : State) : Latched s (pixelTransferMode s) := by
  have pixels := (pixelIterations_frame s.params.pixelItersPerTick s).irq
  unfold pixelTransferMode
  dsimp only
  split <;> exact .of_irq_eq pixels

theorem oamSearchMode_latched (s : State) : Latched s (oamSearchMode s) := by
  unfold oamSearchMode
  split <;> exact .of_irq_eq rfl

theorem vBlankMode_latched (s : State) : Latched s (vBlankMode s) := by
  unfold vBlankMode
  dsimp only
  split_ifs <;> exact .of_irq_eq rfl

theorem hBlankMode_latched (s : State) : Latched s (hBlankMode s) := by
  unfold hBlankMode
  dsimp only
  split_ifs
  · exact (setPpu_latched s _).request 0
  · exact setPpu_latched s _
  · exact .of_irq_eq rfl

theorem modeStep_latched (s : State) : Latched s (modeStep s) := by
  unfold modeStep
  cases s.ppu.mode with
  | hBlank => exact hBlankMode_latched s
  | vBlank => exact vBlankMode_latched s
  | oamSearch => exact oamSearchMode_latched s
  | pixelTransfer => exact pixelTransferMode_latched s

theorem statUpdate_latched (s : State) : Latched s (statUpdate s) := by
  unfold statUpdate
  dsimp only
  split
  · exact (request_latched s 1).trans (.of_irq_eq rfl)
  · exact .of_irq_eq rfl

theorem ppuStep_latched (s : State) : Latched s (ppuStep s) := by
  have count : Latched s (countPpu s) := setPpu_latched s _
  exact (count.trans (modeStep_latched _)).trans (statUpdate_latched _)

theorem timaTick_latched (s : State) : Latched s (timaTick s) := by
  have reload : Latched s { s with timer := { s.timer with tima := s.timer.tma } } := .of_irq_eq rfl
  unfold timaTick
  split
  · exact reload.request 2
  · exact .of_irq_eq rfl

theorem sampleTimer_latched (s : State) : Latched s (sampleTimer s) := by
  unfold sampleTimer
  dsimp only
  split
  · exact (timaTick_latched s).trans (.of_irq_eq rfl)
  · exact .of_irq_eq rfl

theorem timerStep_latched (s : State) : Latched s (timerStep s) := by
  have advance : Latched s (advanceDiv s) := .of_irq_eq rfl
  unfold timerStep
  dsimp only
  split
  · exact advance.trans (sampleTimer_latched _)
  · exact advance

theorem serialStep_latched (s : State) : Latched s (serialStep s) := by
  unfold serialStep
  cases s.serialInput with
  | nil => exact .of_irq_eq rfl
  | cons asks rest =>
    have consumed : Latched s { s with serialInput := rest } := .of_irq_eq rfl
    cases asks with
    | true => exact consumed.request 3
    | false => exact consumed

theorem afterCpu_latched (s : State) : Latched s (afterCpu s) :=
  ((ppuStep_latched s).trans (timerStep_latched _)).trans (serialStep_latched _)

/-- Settles O60: `SerialStep` by its input, and the three agents one after the other. -/
theorem requestsAreLatched : Obligations.RequestsAreLatched := by
  intro s
  obtain ⟨ie, iflag⟩ := afterCpu_latched s
  refine ⟨?_, ie, iflag⟩
  unfold serialStep
  rcases s.serialInput with _ | ⟨_ | _, rest⟩ <;> rfl

end Sys2Proof.Machine
end

section
/-! The family 10_state.md. What each instruction may write of F and of the control state (R11 to R20), the state at reset
(R39), and the invariant that every step keeps. -/

namespace Sys2Proof.Machine

/-! Register operands. -/

theorem pair_setPair (c : Cpu) (v : Word) (p : Pair) : (c.setPair p v).pair p = v := by
  cases p with
  | sp => rfl
  | bc | de | hl => exact joinBytes_hiByte_loByte v

theorem stackPair_setStackPair (c : Cpu) (v : Word) {p : StackPair} (notAf : p ≠ .af) :
    (c.setStackPair p v).stackPair p = v := by
  cases p with
  | af => exact absurd rfl notAf
  | bc | de | hl => exact joinBytes_hiByte_loByte v

theorem reg_setReg (c : Cpu) (w : Byte) (r r' : Reg8) : (c.setReg r w).reg r' = if r' = r then w else c.reg r' := by
  cases r <;> cases r' <;> rfl

/-- Settles O15: the halves and the tables by definition, what is written read back by the laws above. -/
theorem registerOperands : Obligations.RegisterOperands := by
  intro c v w
  exact ⟨⟨rfl, rfl, rfl, rfl⟩, ⟨rfl, rfl, rfl, rfl⟩, pair_setPair c v, fun _ => stackPair_setStackPair c v, reg_setReg c w,
    rfl, rfl, rfl, rfl⟩

/-! Reset. -/

/-- Settles O12: each field is the literal that the reset state is made of. -/
theorem resetState : Obligations.ResetState :=
  ⟨rfl, rfl, rfl, rfl, rfl, rfl, fun _ _ => rfl, fun _ => rfl⟩

/-- Settles O13: the start of line 0, with empty queues and empty memory. -/
theorem invAtReset : Obligations.InvAtReset where
  flags := by decide
  cycles := by decide
  waiting := by decide
  divider := by decide
  timing := ⟨by decide, by decide, by decide⟩
  bounds := ⟨by decide, by decide, by decide, .nil, by decide, by decide⟩
  mem := by decide
  bootRom := nofun
  frame := by decide
  rate := by decide

/-! The flag table by form (R17): the row of an instruction depends on the operation alone, not on its operand. -/

/-- A row Z, N, H, C of the flag table. -/
abbrev FlagRow := FlagEntry × FlagEntry × FlagEntry × FlagEntry

/-- The row under an instruction's opcode byte. -/
def flagRowOf (i : Instr) : FlagRow :=
  match encode i with
  | [] => flagRow i.table 0
  | op :: _ => flagRow i.table op.toNat

theorem flagRowOf_of_encode {i : Instr} {op : Byte} {rest : List Byte} (h : encode i = op :: rest) :
    flagRowOf i = flagRow i.table op.toNat := by
  unfold flagRowOf
  rw [h]

/-- The row of an instruction that writes no flag. -/
def noFlag : FlagRow := (.unchanged, .unchanged, .unchanged, .unchanged)

@[simp] theorem flagRowOf_ldRegReg (r r' : Reg8) : flagRowOf (Instr.ldRegReg r r') = noFlag := by
  cases r <;> cases r' <;> rfl
@[simp] theorem flagRowOf_ldRegImm (r : Reg8) (n : Byte) : flagRowOf (Instr.ldRegImm r n) = noFlag := by
  cases r <;> rfl
@[simp] theorem flagRowOf_ldRegHl (r : Reg8) : flagRowOf (Instr.ldRegHl r) = noFlag := by cases r <;> rfl
@[simp] theorem flagRowOf_ldHlReg (r : Reg8) : flagRowOf (Instr.ldHlReg r) = noFlag := by cases r <;> rfl
@[simp] theorem flagRowOf_ldPairImm (p : Pair) (nn : Word) : flagRowOf (Instr.ldPairImm p nn) = noFlag := by
  cases p <;> rfl
@[simp] theorem flagRowOf_pushPair (p : StackPair) : flagRowOf (Instr.pushPair p) = noFlag := by cases p <;> rfl
@[simp] theorem flagRowOf_incPair (p : Pair) : flagRowOf (Instr.incPair p) = noFlag := by cases p <;> rfl
@[simp] theorem flagRowOf_decPair (p : Pair) : flagRowOf (Instr.decPair p) = noFlag := by cases p <;> rfl
@[simp] theorem flagRowOf_resReg (b : Fin 8) (r : Reg8) : flagRowOf (Instr.resReg b r) = noFlag := by
  fin_cases b <;> cases r <;> rfl
@[simp] theorem flagRowOf_resHl (b : Fin 8) : flagRowOf (Instr.resHl b) = noFlag := by fin_cases b <;> rfl
@[simp] theorem flagRowOf_setBitReg (b : Fin 8) (r : Reg8) : flagRowOf (Instr.setBitReg b r) = noFlag := by
  fin_cases b <;> cases r <;> rfl
@[simp] theorem flagRowOf_setBitHl (b : Fin 8) : flagRowOf (Instr.setBitHl b) = noFlag := by fin_cases b <;> rfl
@[simp] theorem flagRowOf_jpCc (cc : Cond) (nn : Word) : flagRowOf (Instr.jpCc cc nn) = noFlag := by cases cc <;> rfl
@[simp] theorem flagRowOf_jrCc (cc : Cond) (e : Byte) : flagRowOf (Instr.jrCc cc e) = noFlag := by cases cc <;> rfl
@[simp] theorem flagRowOf_callCc (cc : Cond) (nn : Word) : flagRowOf (Instr.callCc cc nn) = noFlag := by
  cases cc <;> rfl
@[simp] theorem flagRowOf_retCc (cc : Cond) : flagRowOf (Instr.retCc cc) = noFlag := by cases cc <;> rfl
@[simp] theorem flagRowOf_rst (b : Fin 8) : flagRowOf (Instr.rst b) = noFlag := by fin_cases b <;> rfl

theorem flagRowOf_aluReg (op : AluOp) (r : Reg8) : flagRowOf (Instr.aluReg op r) = flagRowOf (Instr.aluHl op) := by
  cases op <;> cases r <;> rfl
theorem flagRowOf_aluImm (op : AluOp) (n : Byte) : flagRowOf (Instr.aluImm op n) = flagRowOf (Instr.aluHl op) := by
  cases op <;> rfl
theorem flagRowOf_incReg (r : Reg8) : flagRowOf (Instr.incReg r) = flagRowOf .inc_atHl := by cases r <;> rfl
theorem flagRowOf_decReg (r : Reg8) : flagRowOf (Instr.decReg r) = flagRowOf .dec_atHl := by cases r <;> rfl
theorem flagRowOf_addHlPair (p : Pair) : flagRowOf (Instr.addHlPair p) = flagRowOf .add_hl_bc := by cases p <;> rfl
theorem flagRowOf_rotReg (op : RotOp) (r : Reg8) : flagRowOf (Instr.rotReg op r) = flagRowOf (Instr.rotHl op) := by
  cases op <;> cases r <;> rfl
theorem flagRowOf_bitHl (b : Fin 8) : flagRowOf (Instr.bitHl b) = flagRowOf .bit_0_atHl := by fin_cases b <;> rfl
theorem flagRowOf_bitReg (b : Fin 8) (r : Reg8) : flagRowOf (Instr.bitReg b r) = flagRowOf .bit_0_atHl := by
  fin_cases b <;> cases r <;> rfl

/-! The flags that each operation computes are in its row. -/

/-- The row allows the flags `z`, `n`, `h`, `c` after those of `cpu`. -/
def FlagRow.Allows (row : FlagRow) (cpu : Cpu) (z n h c : Bool) : Prop :=
  row.1.Holds cpu.flagZ z ∧ row.2.1.Holds cpu.flagN n ∧ row.2.2.1.Holds cpu.flagH h ∧ row.2.2.2.Holds cpu.flagC c

/-- The row allows the flags of a result. -/
abbrev FlagRow.AllowsResult (row : FlagRow) (cpu : Cpu) (r : AluResult) : Prop := row.Allows cpu r.z r.n r.h r.c

theorem aluResult_allowed (op : AluOp) (cpu : Cpu) (a b : Byte) (carry : Bool) :
    (flagRowOf (Instr.aluHl op)).AllowsResult cpu (aluResult op a b carry) := by
  cases op with
  | add | adc | sub | sbc | cp => exact ⟨trivial, rfl, trivial, trivial⟩
  | and | xor | or => exact ⟨trivial, rfl, rfl, rfl⟩

theorem inc8_allowed (cpu : Cpu) (v : Byte) : (flagRowOf .inc_atHl).AllowsResult cpu (inc8 v cpu.flagC) :=
  ⟨trivial, rfl, trivial, rfl⟩

theorem dec8_allowed (cpu : Cpu) (v : Byte) : (flagRowOf .dec_atHl).AllowsResult cpu (dec8 v cpu.flagC) :=
  ⟨trivial, rfl, trivial, rfl⟩

theorem rotResult_allowed (op : RotOp) (cpu : Cpu) (v : Byte) (carry : Bool) :
    (flagRowOf (Instr.rotHl op)).AllowsResult cpu (rotResult op v carry) := by
  cases op with
  | swap => exact ⟨trivial, rfl, rfl, rfl⟩
  | rlc | rrc | rl | rr | sla | sra | srl => exact ⟨trivial, rfl, rfl, trivial⟩

/-! What an instruction may write of the CPU. -/

@[simp] theorem State.push16_cpu (s : State) (v : Word) : (s.push16 v).cpu = { s.cpu with sp := s.cpu.sp - 2 } := by
  rw [push16_eq]
  rfl

@[simp] theorem State.storeHl_cpu (s : State) (v : Byte) : (s.storeHl v).cpu = s.cpu := memWrite_cpu s _ v

theorem Cpu.setPair_sp (c : Cpu) (p : Pair) (v : Word) : (c.setPair p v).sp = c.sp ∨ p = .sp := by
  cases p with
  | sp => exact .inr rfl
  | bc | de | hl => exact .inl rfl

@[simp] theorem Cpu.testBit_eq_setFlags (c : Cpu) (b : Fin 8) (v : Byte) :
    c.testBit b v = c.setFlags (!v.getLsbD b) false true c.flagC := rfl

@[simp] theorem State.putReg_cpu (s : State) (r : Reg8) (res : AluResult) :
    (s.putReg r res).cpu = (s.cpu.setReg r res.value).setFlags res.z res.n res.h res.c := rfl

@[simp] theorem State.putHl_cpu (s : State) (res : AluResult) :
    (s.putHl res).cpu = s.cpu.setFlags res.z res.n res.h res.c := by
  show (s.storeHl res.value).cpu.setFlags _ _ _ _ = _
  rw [State.storeHl_cpu]

@[simp] theorem State.returnFromInterrupt_cpu (s : State) (cost : Byte) :
    (s.returnFromInterrupt cost).cpu =
      { s.cpu with sp := s.cpu.sp + 2, pc := s.stackTop, cyclesRemaining := cost, ime := true } := rfl

@[simp] theorem writesSp_pushPair (p : StackPair) : writesSp (Instr.pushPair p) = true := by cases p <;> rfl
@[simp] theorem writesSp_popPair (p : StackPair) : writesSp (Instr.popPair p) = true := by cases p <;> rfl
@[simp] theorem writesSp_callCc (cc : Cond) (nn : Word) : writesSp (Instr.callCc cc nn) = true := by cases cc <;> rfl
@[simp] theorem writesSp_retCc (cc : Cond) : writesSp (Instr.retCc cc) = true := by cases cc <;> rfl
@[simp] theorem writesSp_rst (b : Fin 8) : writesSp (Instr.rst b) = true := by fin_cases b <;> rfl

/-- The three ways an instruction treats F (R17, R18): it keeps F, it packs four flags its row allows, or it is `POP AF`,
which masks the byte it loads. -/
inductive FlagsWritten (row : FlagRow) (old new : Cpu) : Prop
  | kept (none : row = noFlag) (f : new.f = old.f)
  | set {z n h c : Bool} (f : new.f = packFlags z n h c) (allowed : row.Allows old z n h c)
  | masked (all : row = (.computed, .computed, .computed, .computed)) (f : new.f &&& 0x0F = 0)

theorem FlagsWritten.allows {row : FlagRow} {old new : Cpu} (w : FlagsWritten row old new) :
    row.Allows old new.flagZ new.flagN new.flagH new.flagC := by
  unfold Cpu.flagZ Cpu.flagN Cpu.flagH Cpu.flagC
  cases w with
  | kept none f =>
    rw [none, f]
    exact ⟨rfl, rfl, rfl, rfl⟩
  | @set z n h c f allowed =>
    obtain ⟨ez, en, eh, ec⟩ := flagByte_bits z n h c
    rwa [f, packFlags_eq_flagByte, ez, en, eh, ec]
  | masked all _ =>
    rw [all]
    exact ⟨trivial, trivial, trivial, trivial⟩

theorem FlagsWritten.low {row : FlagRow} {old new : Cpu} (w : FlagsWritten row old new) :
    new.f = old.f ∨ new.f &&& 0x0F = 0 := by
  cases w with
  | kept _ f => exact .inl f
  | set f _ => exact .inr (by rw [f, packFlags_eq_flagByte, flagByte_low])
  | masked _ f => exact .inr f

/-- What `i` may write of the CPU in `s` (R11, R15, R17, R20; 30_encoding.md R77): F by its row, a cost of 1 to 6 ticks, and
`ime`, `halted`, `cb_prefix_pending` and SP only where it is one of their writers. -/
structure CpuWritten (i : Instr) (s : State) (new : Cpu) : Prop where
  flags : FlagsWritten (flagRowOf i) s.cpu new
  cost : 1 ≤ new.cyclesRemaining.toNat ∧ new.cyclesRemaining.toNat ≤ 6 := by simp
  ime : new.ime = s.cpu.ime ∨ i = .ei ∨ i = .di ∨ i = .reti := by simp
  halted : new.halted = s.cpu.halted ∨
    new.cyclesRemaining = 1 ∧ (i = .halt ∨ ∃ n, i = .stop n ∧ s.params.stopBehaviour = .halt) := by simp
  cbPrefixPending : new.cbPrefixPending = s.cpu.cbPrefixPending ∨ i = .prefix_cb := by simp
  sp : new.sp = s.cpu.sp ∨ writesSp i = true := by simp

theorem popPair_flags (p : StackPair) (s : State) :
    FlagsWritten (flagRowOf (Instr.popPair p)) s.cpu ((s.popped.setStackPair p s.stackTop).retire 1 3).cpu := by
  cases p with
  | bc | de | hl => exact .kept rfl rfl
  | af =>
    refine .masked rfl ?_
    show loByte s.stackTop &&& 0xF0 &&& 0x0F = 0
    rw [BitVec.and_assoc]
    exact BitVec.and_zero

/-- What a next state of an instruction may have written of the CPU. -/
theorem exec_cpu {i : Instr} {s t : State} (h : exec i s = .next t) : CpuWritten i s t.cpu := by
  induction i using Instr.forms
  case unassigned u => cases (exec_unassigned u s).symm.trans h
  -- no flag is written
  case nop | jp_a16 _ | jp_hl | jr_e _ | halt | prefix_cb | di | ei | ld_a_atBc | ld_a_atDe | ld_a_atA16 _ | ld_a_atC
      | ldh_a_atA8 _ | ld_a_atHlInc | ld_a_atHlDec | ld_atBc_a | ld_atDe_a | ld_atA16_a _ | ld_atC_a | ldh_atA8_a _
      | ld_atHl_d8 _ | ld_atHlInc_a | ld_atHlDec_a | ld_atA16_sp _ =>
    cases h
    exact { flags := .kept rfl (by simp) }
  case ret | call_a16 _ | reti | ld_sp_hl =>
    cases h
    exact { flags := .kept rfl (by simp), sp := .inr rfl }
  case stop n =>
    cases hb : s.params.stopBehaviour <;> simp only [exec_of_stop, stop, hb] at h <;> cases h
    · exact { flags := .kept rfl rfl }
    · exact { flags := .kept rfl rfl, halted := .inr ⟨rfl, .inr ⟨n, rfl, hb⟩⟩ }
  case ldRegReg | ldRegImm | ldRegHl | ldHlReg | resReg | resHl | setBitReg | setBitHl | pushPair | rst =>
    simp only [exec_ldRegReg, exec_ldRegImm, exec_ldRegHl, exec_ldHlReg, exec_resReg, exec_resHl, exec_setBitReg,
      exec_setBitHl, exec_pushPair, exec_rst] at h
    cases h
    exact { flags := .kept (by simp) (by simp) }
  case ldPairImm p _ | incPair p | decPair p =>
    simp only [exec_ldPairImm, exec_incPair, exec_decPair] at h
    cases h
    exact { flags := .kept (by simp) (by simp), sp := (Cpu.setPair_sp _ p _).imp_right (by rintro rfl; rfl) }
  case jpCc | jrCc | callCc | retCc =>
    simp only [exec_jpCc, exec_jrCc, exec_callCc, exec_retCc] at h
    cases h
    split <;> exact { flags := .kept (by simp) (by simp) }
  -- flags are written
  case popPair p =>
    cases (exec_popPair p s).symm.trans h
    exact { flags := popPair_flags p s }
  case aluReg op r =>
    cases (exec_aluReg op r s).symm.trans h
    exact { flags := .set rfl (flagRowOf_aluReg op r ▸ aluResult_allowed op s.cpu _ _ _) }
  case aluHl op =>
    cases (exec_aluHl op s).symm.trans h
    exact { flags := .set rfl (aluResult_allowed op s.cpu _ _ _) }
  case aluImm op n =>
    cases (exec_aluImm op n s).symm.trans h
    exact { flags := .set rfl (flagRowOf_aluImm op n ▸ aluResult_allowed op s.cpu _ _ _) }
  case incReg r =>
    cases (exec_incReg r s).symm.trans h
    exact { flags := .set rfl (flagRowOf_incReg r ▸ inc8_allowed s.cpu _) }
  case decReg r =>
    cases (exec_decReg r s).symm.trans h
    exact { flags := .set rfl (flagRowOf_decReg r ▸ dec8_allowed s.cpu _) }
  case inc_atHl =>
    cases h
    exact { flags := .set rfl (inc8_allowed s.cpu _) }
  case dec_atHl =>
    cases h
    exact { flags := .set rfl (dec8_allowed s.cpu _) }
  case addHlPair p =>
    cases (exec_addHlPair p s).symm.trans h
    exact { flags := .set rfl (flagRowOf_addHlPair p ▸ ⟨rfl, rfl, trivial, trivial⟩) }
  case rotReg op r =>
    cases (exec_rotReg op r s).symm.trans h
    exact { flags := .set rfl (flagRowOf_rotReg op r ▸ rotResult_allowed op s.cpu _ _) }
  case rotHl op =>
    cases (exec_rotHl op s).symm.trans h
    exact { flags := .set rfl (rotResult_allowed op s.cpu _ _) }
  case bitReg b r =>
    cases (exec_bitReg b r s).symm.trans h
    exact { flags := .set rfl (flagRowOf_bitReg b r ▸ ⟨trivial, rfl, rfl, rfl⟩) }
  case bitHl b =>
    cases (exec_bitHl b s).symm.trans h
    exact { flags := .set rfl (flagRowOf_bitHl b ▸ ⟨trivial, rfl, rfl, rfl⟩) }
  case rlca | rrca | rla | rra | ccf =>
    cases h
    exact { flags := .set rfl ⟨rfl, rfl, rfl, trivial⟩ }
  case daa =>
    cases h
    exact { flags := .set rfl ⟨trivial, rfl, rfl, trivial⟩ }
  case cpl | scf =>
    cases h
    exact { flags := .set rfl ⟨rfl, rfl, rfl, rfl⟩ }
  case ld_hl_sp_e _ =>
    cases h
    exact { flags := .set rfl ⟨rfl, rfl, trivial, trivial⟩ }
  case add_sp_e _ =>
    cases h
    exact { flags := .set rfl ⟨rfl, rfl, trivial, trivial⟩, sp := .inr rfl }

/-- Settles O40: each way of treating F is in the instruction's row. -/
theorem flagWriters : Obligations.FlagWriters := by
  intro i op rest s t encoded h
  have allows := (exec_cpu h).flags.allows
  rwa [flagRowOf_of_encode encoded] at allows

/-- Settles O41: F is kept, packed from four flags, or masked. -/
theorem writesOfFClearLowNibble : Obligations.WritesOfFClearLowNibble :=
  fun _ _ _ h => (exec_cpu h).flags.low

/-- Settles O43: an instruction that is none of a field's writers keeps the field. -/
theorem controlStateWriters : Obligations.ControlStateWriters := by
  intro i s t h
  have w := exec_cpu h
  exact ⟨w.ime.resolve_left, fun changed => (w.halted.resolve_left changed).2, w.cbPrefixPending.resolve_left,
    w.sp.resolve_left⟩

/-! The CPU's part of the invariant. -/

/-- The clauses of `Inv` about the CPU: F, `cycles_remaining`, and a halted CPU's one cycle (R11, R250, R231). -/
structure CpuInv (c : Cpu) : Prop where
  flags : c.f &&& 0x0F = 0
  cycles : 1 ≤ c.cyclesRemaining.toNat ∧ c.cyclesRemaining.toNat ≤ 6
  waiting : c.halted = true → c.cyclesRemaining = 1

theorem Inv.cpuInv {s : State} (h : Inv s) : CpuInv s.cpu := ⟨h.flags, h.cycles, h.waiting⟩

/-- An instruction that runs on a CPU which is not halted leaves one with the clauses. -/
theorem CpuWritten.cpuInv {i : Instr} {s : State} {new : Cpu} (w : CpuWritten i s new) (flags : s.cpu.f &&& 0x0F = 0)
    (awake : s.cpu.halted = false) : CpuInv new where
  flags := by
    rcases w.flags.low with kept | low
    · rw [kept, flags]
    · exact low
  cycles := w.cost
  waiting := fun halted => by
    rcases w.halted with kept | ⟨one, -⟩
    · rw [kept, awake] at halted
      cases halted
    · exact one

/-- Counting down from a `cycles_remaining` other than 1. -/
theorem countDown_cpuInv {s : State} (h : CpuInv s.cpu) (more : s.cpu.cyclesRemaining ≠ 1) : CpuInv s.countDown.cpu where
  flags := h.flags
  cycles := by
    have cycles := h.cycles
    show 1 ≤ (s.cpu.cyclesRemaining - 1).toNat ∧ (s.cpu.cyclesRemaining - 1).toNat ≤ 6
    bv_omega
  waiting := nofun

/-- Interrupt entry takes 5 ticks, keeps F and wakes the CPU (60_exceptions.md R252). -/
theorem takeInterrupt_cpuInv {s : State} (flags : s.cpu.f &&& 0x0F = 0) (i : Fin 5) :
    CpuInv (s.takeInterrupt i).cpu := by
  have entered : (s.takeInterrupt i).cpu =
      { s.cpu with ime := false, sp := s.cpu.sp - 2, pc := vectorOf i, cyclesRemaining := 5, halted := false } := by
    unfold State.takeInterrupt
    simp [State.setHalted, State.goTo, State.setIf, State.setIme]
  rw [entered]
  exact ⟨flags, by simp, nofun⟩

theorem cpuStep_cpuInv {s t : State} (hi : CpuInv s.cpu) (h : cpuStep s = .next t) : CpuInv t.cpu := by
  rcases cpuStep_cases s with ⟨-, -, e⟩ | ⟨-, more, e⟩ | ⟨-, -, e⟩ | ⟨-, -, e⟩ <;> rw [e] at h
  · cases h
    exact hi
  · cases h
    exact countDown_cpuInv hi more
  · cases h
    exact takeInterrupt_cpuInv (s := s.countDown) hi.flags _
  · exact (exec_cpu h).cpuInv hi.flags rfl

/-! The other agents and the host leave the CPU alone. -/

theorem oamSearchMode_ppuFrame (s : State) : PpuFrame s (oamSearchMode s) := by
  unfold oamSearchMode
  split <;> rfl

theorem pixelTransferMode_ppuFrame (s : State) : PpuFrame s (pixelTransferMode s) := by
  have pixels := (pixelIterations_frame s.params.pixelItersPerTick s).ppuFrame
  unfold pixelTransferMode
  dsimp only
  split
  · exact pixels.trans (setPpu_ppuFrame _ _)
  · exact pixels

theorem hBlankMode_ppuFrame (s : State) : PpuFrame s (hBlankMode s) := by
  unfold hBlankMode
  dsimp only
  split_ifs <;> rfl

theorem vBlankMode_ppuFrame (s : State) : PpuFrame s (vBlankMode s) := by
  unfold vBlankMode
  dsimp only
  split_ifs <;> rfl

theorem modeStep_ppuFrame (s : State) : PpuFrame s (modeStep s) := by
  unfold modeStep
  cases s.ppu.mode with
  | hBlank => exact hBlankMode_ppuFrame s
  | vBlank => exact vBlankMode_ppuFrame s
  | oamSearch => exact oamSearchMode_ppuFrame s
  | pixelTransfer => exact pixelTransferMode_ppuFrame s

/-- A PPU step changes the PPU, IF and the frame buffer alone. -/
theorem ppuStep_ppuFrame (s : State) : PpuFrame s (ppuStep s) := by
  have modes : PpuFrame s (modeStep (countPpu s)) := (setPpu_ppuFrame s _).trans (modeStep_ppuFrame _)
  refine modes.trans ?_
  unfold PpuFrame ppuStep
  rw [statUpdate_frame]

theorem afterCpu_cpu (s : State) : (afterCpu s).cpu = s.cpu := by
  unfold afterCpu
  rw [serialStep_cpu, (timerStep_frame _).1, ppuStep_ppuFrame s]

/-- Settles O14: `CpuStep` keeps the CPU's clauses and nothing after it writes the CPU; the other clauses are those of
`step_stepped`. -/
theorem invStep : Obligations.InvStep := by
  intro s t hi h
  have rest := step_stepped hi h
  have cpu : CpuInv t.cpu := by
    obtain ⟨-, u, hu, rfl⟩ := step_next h
    rw [endOfTick_cpu, afterCpu_cpu]
    exact cpuStep_cpuInv hi.cpuInv hu
  exact
    { flags := cpu.flags
      cycles := cpu.cycles
      waiting := cpu.waiting
      divider := rest.divider
      timing := rest.params ▸ rest.ppu.timing
      bounds := rest.ppu.bounds
      mem := rest.mem
      bootRom := rest.bootRom ▸ hi.bootRom
      frame := rest.ppu.frame
      rate := rest.params ▸ hi.rate }

end Sys2Proof.Machine
end

section
/-! The family 20_memory.md. The access tables and the I/O page, row by row; what reads back; and the frames: what an
instruction, a step and a PPU step leave alone. -/

namespace Sys2Proof.Machine

/-! The rows of the access tables. -/

theorem Mode.closesVram_eq (m : Mode) : m.closesVram = decide (m = .pixelTransfer) := by cases m <;> rfl

theorem Mode.closesOam_eq (m : Mode) : m.closesOam = decide (m = .oamSearch ∨ m = .pixelTransfer) := by
  cases m <;> rfl

/-- Only the echo's bytes are kept under another address than their own (20_memory.md R50). -/
theorem cellKey_own {a : Word} (h : ¬(0xE000 ≤ a.toNat ∧ a.toNat < 0xFE00)) : cellKey a = a.toNat := by
  rw [cellKey_eq, if_neg h]

theorem cellKey_echo {a : Word} (h : 0xE000 ≤ a.toNat ∧ a.toNat < 0xFE00) : cellKey a = a.toNat - 0x2000 := by
  rw [cellKey_eq, if_pos h]

theorem romRead_overlay {s : State} {a : Word} {boot : Memory} (present : s.bootRom = some boot)
    (enabled : s.bootOverlay = true) (low : a.toNat < 0x100) : romRead s a = readByte boot a.toNat := by
  unfold romRead
  rw [present]
  exact if_pos ⟨enabled, low⟩

theorem romRead_uncovered {s : State} {a : Word}
    (h : s.bootRom = none ∨ s.bootOverlay = false ∨ 0x100 ≤ a.toNat) : romRead s a = readByte s.mem a.toNat := by
  unfold romRead
  cases present : s.bootRom with
  | none => rfl
  | some boot =>
    refine if_neg fun ⟨enabled, low⟩ => ?_
    rcases h with absent | disabled | high
    · rw [present] at absent; cases absent
    · rw [enabled] at disabled; cases disabled
    · omega

section Rows

variable (acc : Access) (s : State) {a : Word} (v : Byte)

theorem memRead_rom (h : a.toNat < 0x8000) : memRead acc s a = romRead s a := by
  unfold memRead; rw [regionOf_rom h]

theorem memWrite_rom (h : a.toNat < 0x8000) : memWrite s a v = s := by unfold memWrite; rw [regionOf_rom h]

theorem memRead_vram (h : regionOf a = .vram) :
    memRead acc s a = if s.ppu.mode.closesVram then 0xFF else readByte s.mem (cellKey a) := by
  unfold memRead; rw [h]

theorem memWrite_vram (h : regionOf a = .vram) :
    memWrite s a v = if s.ppu.mode.closesVram then s else s.storeCell a v := by unfold memWrite; rw [h]

theorem memRead_oam (h : regionOf a = .oam) :
    memRead acc s a = if s.ppu.mode.closesOam then 0xFF else readByte s.mem (cellKey a) := by
  unfold memRead; rw [h]

theorem memWrite_oam (h : regionOf a = .oam) :
    memWrite s a v = if s.ppu.mode.closesOam then s else s.storeCell a v := by unfold memWrite; rw [h]

/-- The regions with nothing behind them (20_memory.md R49, R41). -/
theorem memRead_empty (h : regionOf a = .extRam ∨ regionOf a = .gap) : memRead acc s a = 0xFF := by
  unfold memRead; rcases h with h | h <;> rw [h]

theorem memWrite_empty (h : regionOf a = .extRam ∨ regionOf a = .gap) : memWrite s a v = s := by
  unfold memWrite; rcases h with h | h <;> rw [h]

theorem memRead_io (h : regionOf a = .io) : memRead acc s a = ioRead acc s a := by unfold memRead; rw [h]

theorem memWrite_io (h : regionOf a = .io) : memWrite s a v = ioWrite s a v := by unfold memWrite; rw [h]

/-- The regions that no mode closes: work RAM, its echo and HRAM. -/
theorem plainByte_ram (h : regionOf a = .wram ∨ regionOf a = .echo ∨ regionOf a = .hram) : plainByte s a = true := by
  unfold plainByte; rcases h with h | h | h <;> rw [h]

end Rows

/-- Settles O45: each row by the region its addresses lie in. -/
theorem accessTables : Obligations.AccessTables := by
  intro acc s addr v n closed oamClosed
  refine ⟨fun hi => ⟨fun boot present enabled low => ?_, fun uncovered => ?_, memWrite_rom s v hi⟩,
    fun lo hi => ?vram, fun lo hi => ?extRam, fun lo hi => ?wram, fun lo hi => ?echo, fun lo hi => ?oam,
    fun lo hi => ?gap, fun lo hi => ?hram, fun e => ?ie⟩
  · rw [memRead_rom acc s hi, romRead_overlay present enabled low]
  · rw [memRead_rom acc s hi, romRead_uncovered uncovered]
  case vram =>
    have hr : regionOf addr = .vram := regionOf_eq ⟨lo, hi⟩
    rw [memRead_vram acc s hr, memWrite_vram s v hr, State.storeCell, Mode.closesVram_eq, cellKey_own (by omega)]
    exact ⟨rfl, rfl⟩
  case extRam =>
    have hr : regionOf addr = .extRam := regionOf_eq ⟨lo, hi⟩
    exact ⟨memRead_empty acc s (.inl hr), memWrite_empty s v (.inl hr)⟩
  case wram =>
    have hp := plainByte_ram s (.inl (regionOf_eq (a := addr) ⟨lo, hi⟩))
    rw [memRead_plain acc hp, memWrite_plain hp, State.storeCell, cellKey_own (by omega)]
    exact ⟨rfl, rfl⟩
  case echo =>
    have hp := plainByte_ram s (.inr (.inl (regionOf_eq (a := addr) ⟨lo, hi⟩)))
    rw [memRead_plain acc hp, memWrite_plain hp, State.storeCell, cellKey_echo ⟨lo, hi⟩]
    exact ⟨rfl, rfl⟩
  case oam =>
    have hr : regionOf addr = .oam := regionOf_eq ⟨lo, hi⟩
    rw [memRead_oam acc s hr, memWrite_oam s v hr, State.storeCell, Mode.closesOam_eq, cellKey_own (by omega)]
    exact ⟨rfl, rfl⟩
  case gap =>
    have hr : regionOf addr = .gap := regionOf_eq ⟨lo, hi⟩
    exact ⟨memRead_empty acc s (.inr hr), memWrite_empty s v (.inr hr)⟩
  case hram =>
    have hp := plainByte_ram s (.inr (.inr (regionOf_eq (a := addr) ⟨lo, hi⟩)))
    rw [memRead_plain acc hp, memWrite_plain hp, State.storeCell, cellKey_own (by omega)]
    exact ⟨rfl, rfl⟩
  case ie =>
    have he : addr = 0xFFFF := BitVec.eq_of_toNat_eq e
    subst he
    exact ⟨rfl, rfl⟩

/-! The I/O page. -/

/-- STAT as a number: its fields at bits 6:3, 2 and 1:0 (10_state.md R31). -/
theorem statByte_eq (p : Ppu) :
    statByte p = BitVec.ofNat 8 (8 * p.statEn.toNat + (if p.ly = p.lyc then 4 else 0) + p.mode.number.toNat) := by
  have fields (en : BitVec 4) (eq : Bool) (mode : BitVec 2) :
      BitVec.ofBool false ++ en ++ BitVec.ofBool eq ++ mode =
        BitVec.ofNat 8 (8 * en.toNat + (if eq = true then 4 else 0) + mode.toNat) := by
    revert en eq mode; decide
  unfold statByte
  rw [fields]
  simp only [beq_iff_eq]

/-- The enable bits a write to STAT sets are bits 6:3 of the byte. -/
theorem statEnables_eq (v : Byte) : v.extractLsb' 3 4 = BitVec.ofNat 4 (v.toNat / 8) := by revert v; decide

/-- An address of the page at which `ioTable` has no register but the write-only boot switch. -/
theorem ioRegAt_unlisted {a : Word}
    (h : a ∉ ([0xFF04, 0xFF05, 0xFF06, 0xFF07, 0xFF0F, 0xFF40, 0xFF41, 0xFF42, 0xFF43, 0xFF44, 0xFF45, 0xFF47, 0xFF48,
      0xFF49, 0xFF4A, 0xFF4B] : List Word)) :
    ioRegAt a = none ∨ (ioRegAt a = some .bootOff ∧ a = 0xFF50) := by
  cases hr : ioRegAt a with
  | none => exact .inl rfl
  | some r =>
    have address : a = BitVec.ofNat 16 r.address := by rw [← ioRegAt_address hr, BitVec.ofNat_toNat, BitVec.setWidth_eq]
    cases r
    case bootOff => exact .inr ⟨rfl, address⟩
    all_goals exact absurd address fun e => h (by rw [e]; decide)

/-- Settles O46: the listed registers by the table's entries, STAT by its fields, the other addresses by the lack of an
entry. -/
theorem ioRegisters : Obligations.IoRegisters := by
  intro acc s v
  refine ⟨⟨rfl, rfl, rfl, rfl, rfl, rfl, ?stat, rfl, rfl, rfl, rfl, rfl, rfl, rfl, rfl, rfl⟩,
    ⟨rfl, rfl, rfl, rfl, rfl, rfl, ?enables, rfl, rfl, rfl, rfl, rfl, rfl, rfl, rfl, rfl, rfl⟩,
    fun addr lo hi unlisted => ?_⟩
  case stat =>
    show statByte s.ppu = _
    rw [statByte_eq]
    cases s.ppu.mode <;> rfl
  case enables =>
    rw [← statEnables_eq]
    rfl
  · have hr : regionOf addr = .io := regionOf_eq ⟨lo, hi⟩
    rw [memRead_io acc s hr, memWrite_io s v hr]
    unfold ioRead ioWrite
    rcases ioRegAt_unlisted unlisted with unnamed | ⟨off, switch⟩
    · rw [unnamed]; exact ⟨rfl, fun _ => rfl⟩
    · rw [off]; exact ⟨rfl, fun other => absurd switch other⟩

/-! What reads back. -/

/-- The echo names the byte of work RAM 0x2000 below (20_memory.md R50). -/
theorem echo_mirrors {a : Word} (lo : 0xE000 ≤ a.toNat) (hi : a.toNat < 0xFE00) :
    regionOf a = .echo ∧ regionOf (a - 0x2000) = .wram ∧ cellKey (a - 0x2000) = cellKey a := by
  have below : (a - 0x2000).toNat = a.toNat - 0x2000 := by bv_omega
  refine ⟨regionOf_eq ⟨lo, hi⟩, regionOf_eq ?_, ?_⟩
  · show 0xC000 ≤ (a - 0x2000).toNat ∧ (a - 0x2000).toNat < 0xE000
    omega
  · rw [cellKey_own (by omega), cellKey_echo ⟨lo, hi⟩, below]

/-- Settles O47: the two regions are plain in every mode, and the two addresses of a mirrored byte have one key. -/
theorem ramReadsBack : Obligations.RamReadsBack := by
  intro acc s addr v
  refine ⟨fun lo hi => ?_, fun lo hi => ?_⟩
  · exact memRead_memWrite_same acc (plainByte_ram s (.inr (.inr (regionOf_eq ⟨lo, hi⟩)))) v
  · obtain ⟨echo, wram, key⟩ := echo_mirrors lo hi
    have plain : plainByte s addr = true := plainByte_ram s (.inr (.inl echo))
    have plain' : plainByte s (addr - 0x2000) = true := plainByte_ram s (.inl wram)
    have write : memWrite s addr v = memWrite s (addr - 0x2000) v := by
      rw [memWrite_plain plain, memWrite_plain plain', State.storeCell, State.storeCell, key]
    refine ⟨?_, write, ?_⟩
    · rw [memRead_plain acc plain, memRead_plain acc plain', key]
    · rw [← write, memRead_memWrite_same acc plain]

/-- The two bytes of a word written to plain memory. -/
theorem memRead_memWrite16 (acc : Access) {s : State} {a : Word} (v : Word) (h : plainByte s a = true)
    (h' : plainByte s (a + 1) = true) :
    memRead acc (memWrite16 s a v) a = loByte v ∧ memRead acc (memWrite16 s a v) (a + 1) = hiByte v := by
  unfold memWrite16
  refine ⟨?_, memRead_memWrite_same acc (by rw [plainByte_memWrite]; exact h') _⟩
  rw [memRead_memWrite_other acc _ _ (mayChange_succ h h').1, memRead_memWrite_same acc h]

/-- Settles O48: the two equations by definition, the round trip by its two bytes. -/
theorem wordAccess : Obligations.WordAccess := by
  intro acc s addr v
  refine ⟨rfl, rfl, fun plain plain' => ?_⟩
  obtain ⟨low, high⟩ := memRead_memWrite16 acc v plain plain'
  refine ⟨?_, low, high⟩
  rw [memRead16, low, high, joinBytes_hiByte_loByte]

/-! Frames of the instructions. -/

/-- A next state of an instruction is stores at its addresses, then a CPU. -/
theorem exec_next {i : Instr} {s t : State} (h : exec i s = .next t) :
    ∃ ws c, ws.map Prod.fst = storedAt i s ∧ t = (storeBytes s ws).setCpu c := by
  rcases exec_shape i s with ⟨op, e⟩ | ⟨ws, c, stored, e⟩ <;> rw [e] at h <;> cases h
  exact ⟨ws, c, stored, rfl⟩

/-- Settles O38: with no byte stored, only the CPU is written, and a read looks at nothing of it. -/
theorem frameWithoutStores : Obligations.FrameWithoutStores := by
  intro i s t h storesNone
  obtain ⟨ws, c, stored, rfl⟩ := exec_next h
  rw [storesNone, List.map_eq_nil_iff] at stored
  subst stored
  exact ⟨rfl, fun acc addr => memRead_setCpu acc s c addr⟩

/-- What each store keeps, stores in a row keep. -/
theorem storeBytes_keeps {α : Type} (f : State → α) {ws : List (Word × Byte)}
    (h : ∀ t : State, ∀ w ∈ ws, f (memWrite t w.1 w.2) = f t) (s : State) : f (storeBytes s ws) = f s := by
  induction ws generalizing s with
  | nil => rfl
  | cons w ws ih =>
    rw [storeBytes_cons, ih fun t x hx => h t x (List.mem_cons_of_mem _ hx), h s w List.mem_cons_self]

/-- What a write at `a` may do from `s` to `t` to the divider, its sample and the boot overlay: only the divider's own
address clears it (20_memory.md R54), only the boot switch turns the overlay off (R47). -/
structure SwitchesKept (a : Word) (s t : State) : Prop where
  fullDiv : a ≠ 0xFF04 → t.timer.fullDiv = s.timer.fullDiv
  bootOverlay : a ≠ 0xFF50 → t.bootOverlay = s.bootOverlay
  timerPrev : t.timer.timerPrev = s.timer.timerPrev

theorem ioWrite_switches (s : State) (a : Word) (v : Byte) : SwitchesKept a s (ioWrite s a v) := by
  unfold ioWrite
  cases hr : ioRegAt a with
  | none => exact ⟨fun _ => rfl, fun _ => rfl, rfl⟩
  | some r =>
    have address := ioRegAt_address hr
    cases r
    case div => exact ⟨fun other => absurd (BitVec.eq_of_toNat_eq address) other, fun _ => rfl, rfl⟩
    case bootOff => exact ⟨fun _ => rfl, fun other => absurd (BitVec.eq_of_toNat_eq address) other, rfl⟩
    all_goals exact ⟨fun _ => rfl, fun _ => rfl, rfl⟩

theorem memWrite_switches (s : State) (a : Word) (v : Byte) : SwitchesKept a s (memWrite s a v) := by
  unfold memWrite
  cases regionOf a
  case io => exact ioWrite_switches s a v
  case vram => cases s.ppu.mode.closesVram <;> exact ⟨fun _ => rfl, fun _ => rfl, rfl⟩
  case oam => cases s.ppu.mode.closesOam <;> exact ⟨fun _ => rfl, fun _ => rfl, rfl⟩
  all_goals exact ⟨fun _ => rfl, fun _ => rfl, rfl⟩

/-- Settles O39: each store keeps what it does not name, so the instruction's stores do, and the CPU holds none of it. -/
theorem frameWithStores : Obligations.FrameWithStores := by
  intro i s t h
  have kept := exec_kept h
  obtain ⟨ws, c, stored, rfl⟩ := exec_next h
  have ne {a : Word} (unstored : a ∉ storedAt i s) : ∀ w ∈ ws, w.1 ≠ a := fun w hw e =>
    unstored (stored ▸ e ▸ List.mem_map_of_mem hw)
  exact
    ⟨fun acc addr apart => memRead_storeBytes_other acc s ws addr (stored ▸ apart),
      fun unstored =>
        storeBytes_keeps (·.timer.fullDiv) (fun t w hw => (memWrite_switches t _ _).fullDiv (ne unstored w hw)) s,
      fun unstored =>
        storeBytes_keeps (·.bootOverlay) (fun t w hw => (memWrite_switches t _ _).bootOverlay (ne unstored w hw)) s,
      storeBytes_keeps (·.timer.timerPrev) (fun t _ _ => (memWrite_switches t _ _).timerPrev) s,
      kept.ppu, kept.frame, kept.bootRom, kept.params,
      storeBytes_keeps (·.serialInput) (fun t _ _ => memWrite_serialInput t _ _) s,
      storeBytes_keeps (·.hostInput) (fun t _ _ => memWrite_hostInput t _ _) s,
      storeBytes_keeps (·.drawCount) (fun t _ _ => memWrite_drawCount t _ _) s⟩

/-! ROM. -/

theorem PpuFrame.mem {s t : State} (h : PpuFrame s t) : t.mem = s.mem := by rw [h]

theorem PpuFrame.bootRom {s t : State} (h : PpuFrame s t) : t.bootRom = s.bootRom := by rw [h]

/-- Settles O44: no bank controller answers a write to ROM, and the parts of a step keep ROM, the PPU by its frame. -/
theorem romNeverChanges : Obligations.RomNeverChanges := by
  refine ⟨fun s addr v low => memWrite_rom s v low, fun s t h => ?_⟩
  obtain ⟨-, u, hu, rfl⟩ := step_next h
  have before := cpuStep_kept hu
  have ppu := ppuStep_ppuFrame u
  have after := ((timerStep_kept (ppuStep u)).trans (serialStep_kept _)).trans (endOfTick_kept _)
  refine ⟨(after.bootRom.trans ppu.bootRom).trans before.bootRom, fun k low => ?_⟩
  calc readByte (endOfTick (afterCpu u)).mem k
    _ = readByte (ppuStep u).mem k := after.rom k low
    _ = readByte u.mem k := by rw [ppu.mem]
    _ = readByte s.mem k := before.rom k low

/-! What a PPU step writes of the frame buffer. -/

/-- From `s` to `t` no pixel is written but those of row LY (10_state.md R38). -/
def OtherRowsKept (s t : State) : Prop :=
  ∀ x y, x < 160 → y ≠ s.ppu.ly.toNat → readPixel t.frame x y = readPixel s.frame x y

theorem OtherRowsKept.of_frame_eq {s t : State} (h : t.frame = s.frame) : OtherRowsKept s t := fun _ _ _ _ => by rw [h]

theorem PixelFrame.ly {s t : State} (h : PixelFrame s t) : t.ppu.ly = s.ppu.ly := by rw [h]

theorem OtherRowsKept.trans {s t u : State} (h : OtherRowsKept s t) (ly : t.ppu.ly = s.ppu.ly)
    (h' : OtherRowsKept t u) : OtherRowsKept s u := fun x y hx hy =>
  (h' x y hx (by rw [ly]; exact hy)).trans (h x y hx hy)

/-- From `s` to `t` the pixel cursor and the frame buffer stand. -/
def CursorKept (s t : State) : Prop := t.ppu.drawX = s.ppu.drawX ∧ t.frame = s.frame

theorem startWindow_cursor (s : State) : CursorKept s (startWindow s) := by
  obtain ⟨cursor, -, frame, -⟩ := startWindow_ppu s
  exact ⟨cursor, frame⟩

theorem refillBackground_cursor (s : State) : CursorKept s (refillBackground s) := by
  unfold refillBackground
  split <;> exact ⟨rfl, rfl⟩

theorem mergeSprite_foldl_cursor (vs : List VisibleSprite) (s : State) :
    CursorKept s (vs.foldl (fun t v => mergeSprite t v.index) s) := by
  induction vs generalizing s with
  | nil => exact ⟨rfl, rfl⟩
  | cons v vs ih => exact ih (mergeSprite s v.index)

theorem mergeSprites_cursor (s : State) : CursorKept s (mergeSprites s) := by
  unfold mergeSprites
  split
  · exact mergeSprite_foldl_cursor _ s
  · exact ⟨rfl, rfl⟩

theorem commitPixel_otherRows {s : State} (bg : Colour) (onLine : s.ppu.drawX < 160) :
    OtherRowsKept s (commitPixel s bg) := by
  intro x y hx hy
  rw [commitPixel_frameBuffer]
  split
  · rw [readPixel_writePixel _ _ onLine hx, if_neg fun e => hy e.2]
  · rfl

theorem pixelIteration_otherRows {s : State} (onLine : s.ppu.drawX < 160) : OtherRowsKept s (pixelIteration s) := by
  obtain ⟨cursor, frame⟩ := startWindow_cursor s
  obtain ⟨cursor', frame'⟩ := refillBackground_cursor (startWindow s)
  have fetch := (startWindow_frame s).trans (refillBackground_frame _)
  unfold pixelIteration
  generalize refillBackground (startWindow s) = t at cursor' frame' fetch ⊢
  have same : t.frame = s.frame := frame'.trans frame
  dsimp only
  cases t.ppu.bgFifo with
  | nil => exact .of_frame_eq same
  | cons bg rest =>
    dsimp only
    split
    · exact .of_frame_eq same
    · obtain ⟨cursor'', frame''⟩ := mergeSprites_cursor (t.setPpu { t.ppu with bgFifo := rest })
      have popped : PixelFrame s (t.setPpu { t.ppu with bgFifo := rest }) := fetch.trans (.setPpu rfl)
      refine OtherRowsKept.trans (.of_frame_eq (frame''.trans same)) (popped.trans (mergeSprites_frame _)).ly
        (commitPixel_otherRows bg ?_)
      rw [cursor'', State.setPpu_ppu, cursor', cursor]
      exact onLine

theorem pixelIterations_otherRows (n : Nat) (s : State) : OtherRowsKept s (pixelIterations n s) := by
  induction n generalizing s with
  | zero => exact .of_frame_eq rfl
  | succ n ih =>
    unfold pixelIterations
    split
    case isTrue onLine => exact (pixelIteration_otherRows onLine).trans (pixelIteration_frame s).ly (ih _)
    case isFalse => exact ih s

theorem pixelTransferMode_otherRows (s : State) : OtherRowsKept s (pixelTransferMode s) := by
  have pixels := pixelIterations_otherRows s.params.pixelItersPerTick s
  unfold pixelTransferMode
  dsimp only
  split <;> exact pixels

theorem oamSearchMode_frameBuffer (s : State) : (oamSearchMode s).frame = s.frame := by
  unfold oamSearchMode
  split <;> rfl

theorem hBlankMode_frameBuffer (s : State) : (hBlankMode s).frame = s.frame := by
  unfold hBlankMode
  dsimp only
  split_ifs <;> rfl

theorem vBlankMode_frameBuffer (s : State) : (vBlankMode s).frame = s.frame := by
  unfold vBlankMode
  dsimp only
  split_ifs <;> rfl

theorem modeStep_otherRows (s : State) : OtherRowsKept s (modeStep s) := by
  unfold modeStep
  cases s.ppu.mode with
  | pixelTransfer => exact pixelTransferMode_otherRows s
  | hBlank => exact .of_frame_eq (hBlankMode_frameBuffer s)
  | vBlank => exact .of_frame_eq (vBlankMode_frameBuffer s)
  | oamSearch => exact .of_frame_eq (oamSearchMode_frameBuffer s)

theorem ppuStep_otherRows (s : State) : OtherRowsKept s (ppuStep s) := by
  have modes : OtherRowsKept s (modeStep (countPpu s)) := modeStep_otherRows (countPpu s)
  intro x y hx hy
  rw [ppuStep, statUpdate_frame]
  exact modes x y hx hy

/-- Settles O59: the PPU's frame, and the one write of a pixel, which is at the cursor on row LY. -/
theorem ppuWritesOnlyItsRow : Obligations.PpuWritesOnlyItsRow := by
  intro s
  refine ⟨?_, ppuStep_otherRows s⟩
  have untouched := ppuStep_ppuFrame s
  unfold PpuFrame at untouched
  generalize ppuStep s = t at untouched ⊢
  rw [untouched]

end Sys2Proof.Machine
end

section
/-! The family 30_encoding.md. Each form's encoding by its opcode fields (R71, R75, R76), the decoder and the encoder as
inverses of each other (R70, R73, R74), the unassigned bytes (R78), and what an instruction costs and how far it advances
PC (R72, R77). -/

namespace Sys2Proof.Machine

/-! The encoding of each form, by the fields of its opcode byte. -/

@[simp] theorem encode_ldRegReg (r r' : Reg8) :
    encode (Instr.ldRegReg r r') = [opcodeOf 1 (regField r) (regField r')] := by cases r <;> cases r' <;> rfl
@[simp] theorem encode_ldRegImm (r : Reg8) (n : Byte) : encode (Instr.ldRegImm r n) = [opcodeOf 0 (regField r) 6, n] := by
  cases r <;> rfl
@[simp] theorem encode_ldRegHl (r : Reg8) : encode (Instr.ldRegHl r) = [opcodeOf 1 (regField r) 6] := by cases r <;> rfl
@[simp] theorem encode_ldHlReg (r : Reg8) : encode (Instr.ldHlReg r) = [opcodeOf 1 6 (regField r)] := by cases r <;> rfl
@[simp] theorem encode_ldPairImm (p : Pair) (nn : Word) : encode (Instr.ldPairImm p nn) =
    [opcodeOf 0 (2 * pairField p) 1, nn.extractLsb' 0 8, nn.extractLsb' 8 8] := by cases p <;> rfl
@[simp] theorem encode_pushPair (p : StackPair) :
    encode (Instr.pushPair p) = [opcodeOf 3 (2 * stackPairField p) 5] := by cases p <;> rfl
@[simp] theorem encode_popPair (p : StackPair) :
    encode (Instr.popPair p) = [opcodeOf 3 (2 * stackPairField p) 1] := by cases p <;> rfl
@[simp] theorem encode_aluReg (op : AluOp) (r : Reg8) :
    encode (Instr.aluReg op r) = [opcodeOf 2 (aluField op) (regField r)] := by cases op <;> cases r <;> rfl
@[simp] theorem encode_aluHl (op : AluOp) : encode (Instr.aluHl op) = [opcodeOf 2 (aluField op) 6] := by cases op <;> rfl
@[simp] theorem encode_aluImm (op : AluOp) (n : Byte) : encode (Instr.aluImm op n) = [opcodeOf 3 (aluField op) 6, n] := by
  cases op <;> rfl
@[simp] theorem encode_incReg (r : Reg8) : encode (Instr.incReg r) = [opcodeOf 0 (regField r) 4] := by cases r <;> rfl
@[simp] theorem encode_decReg (r : Reg8) : encode (Instr.decReg r) = [opcodeOf 0 (regField r) 5] := by cases r <;> rfl
@[simp] theorem encode_addHlPair (p : Pair) : encode (Instr.addHlPair p) = [opcodeOf 0 (2 * pairField p + 1) 1] := by
  cases p <;> rfl
@[simp] theorem encode_incPair (p : Pair) : encode (Instr.incPair p) = [opcodeOf 0 (2 * pairField p) 3] := by
  cases p <;> rfl
@[simp] theorem encode_decPair (p : Pair) : encode (Instr.decPair p) = [opcodeOf 0 (2 * pairField p + 1) 3] := by
  cases p <;> rfl
@[simp] theorem encode_rotReg (op : RotOp) (r : Reg8) :
    encode (Instr.rotReg op r) = [opcodeOf 0 (rotField op) (regField r)] := by cases op <;> cases r <;> rfl
@[simp] theorem encode_rotHl (op : RotOp) : encode (Instr.rotHl op) = [opcodeOf 0 (rotField op) 6] := by cases op <;> rfl
@[simp] theorem encode_bitReg (b : Fin 8) (r : Reg8) :
    encode (Instr.bitReg b r) = [opcodeOf 1 b.val (regField r)] := by fin_cases b <;> cases r <;> rfl
@[simp] theorem encode_bitHl (b : Fin 8) : encode (Instr.bitHl b) = [opcodeOf 1 b.val 6] := by fin_cases b <;> rfl
@[simp] theorem encode_resReg (b : Fin 8) (r : Reg8) :
    encode (Instr.resReg b r) = [opcodeOf 2 b.val (regField r)] := by fin_cases b <;> cases r <;> rfl
@[simp] theorem encode_resHl (b : Fin 8) : encode (Instr.resHl b) = [opcodeOf 2 b.val 6] := by fin_cases b <;> rfl
@[simp] theorem encode_setBitReg (b : Fin 8) (r : Reg8) :
    encode (Instr.setBitReg b r) = [opcodeOf 3 b.val (regField r)] := by fin_cases b <;> cases r <;> rfl
@[simp] theorem encode_setBitHl (b : Fin 8) : encode (Instr.setBitHl b) = [opcodeOf 3 b.val 6] := by fin_cases b <;> rfl
@[simp] theorem encode_jpCc (cc : Cond) (nn : Word) : encode (Instr.jpCc cc nn) =
    [opcodeOf 3 (condField cc) 2, nn.extractLsb' 0 8, nn.extractLsb' 8 8] := by cases cc <;> rfl
@[simp] theorem encode_jrCc (cc : Cond) (e : Byte) : encode (Instr.jrCc cc e) = [opcodeOf 0 (4 + condField cc) 0, e] := by
  cases cc <;> rfl
@[simp] theorem encode_callCc (cc : Cond) (nn : Word) : encode (Instr.callCc cc nn) =
    [opcodeOf 3 (condField cc) 4, nn.extractLsb' 0 8, nn.extractLsb' 8 8] := by cases cc <;> rfl
@[simp] theorem encode_retCc (cc : Cond) : encode (Instr.retCc cc) = [opcodeOf 3 (condField cc) 0] := by cases cc <;> rfl
@[simp] theorem encode_rst (b : Fin 8) : encode (Instr.rst b) = [opcodeOf 3 b.val 7] := by fin_cases b <;> rfl
@[simp] theorem encode_unassigned (u : Unassigned) : encode (Instr.unassigned u) = [u.byte] := by cases u <;> rfl

/-! The table of each form of the CB table, and of the unassigned bytes. -/

@[simp] theorem table_rotReg (op : RotOp) (r : Reg8) : (Instr.rotReg op r).table = .cb := by cases op <;> cases r <;> rfl
@[simp] theorem table_rotHl (op : RotOp) : (Instr.rotHl op).table = .cb := by cases op <;> rfl
@[simp] theorem table_bitReg (b : Fin 8) (r : Reg8) : (Instr.bitReg b r).table = .cb := by
  fin_cases b <;> cases r <;> rfl
@[simp] theorem table_bitHl (b : Fin 8) : (Instr.bitHl b).table = .cb := by fin_cases b <;> rfl
@[simp] theorem table_resReg (b : Fin 8) (r : Reg8) : (Instr.resReg b r).table = .cb := by
  fin_cases b <;> cases r <;> rfl
@[simp] theorem table_resHl (b : Fin 8) : (Instr.resHl b).table = .cb := by fin_cases b <;> rfl
@[simp] theorem table_setBitReg (b : Fin 8) (r : Reg8) : (Instr.setBitReg b r).table = .cb := by
  fin_cases b <;> cases r <;> rfl
@[simp] theorem table_setBitHl (b : Fin 8) : (Instr.setBitHl b).table = .cb := by fin_cases b <;> rfl
@[simp] theorem table_unassigned (u : Unassigned) : (Instr.unassigned u).table = .main := by cases u <;> rfl

/-- Settles O2: the forms with fields by the laws above, the rest by their rows of the table. -/
theorem opcodesByFields : Obligations.OpcodesByFields := by
  intro r r' p q cc op rot b n nn
  refine
    ⟨⟨encode_ldRegReg r r', encode_ldRegImm r n, encode_ldRegHl r, encode_ldHlReg r', rfl⟩,
      ⟨rfl, rfl, rfl, rfl, rfl, rfl, rfl, rfl, rfl, rfl, rfl, rfl, rfl, rfl⟩,
      ⟨encode_ldPairImm p nn, rfl, rfl, rfl, rfl, encode_pushPair q, encode_popPair q⟩,
      ⟨encode_aluReg op r', encode_aluHl op, encode_aluImm op n, encode_incReg r, encode_decReg r, rfl, rfl,
        encode_addHlPair p, encode_incPair p, encode_decPair p⟩,
      rfl,
      ⟨encode_rotReg rot r', encode_rotHl rot, encode_bitReg b r', encode_bitHl b, encode_resReg b r', encode_resHl b,
        encode_setBitReg b r', encode_setBitHl b⟩,
      ?tables,
      ⟨rfl, encode_jpCc cc nn, rfl, rfl, encode_jrCc cc n, rfl, encode_callCc cc nn, rfl, encode_retCc cc, rfl,
        encode_rst b⟩,
      ⟨rfl, rfl, rfl, rfl, rfl, rfl⟩⟩
  case tables => simp

/-! The decoder by the format of the opcode's entry (R73). -/

section Formats
variable {t : Table} {op : Byte}

theorem decode_one {i : Instr} (h : entryOf t op = .one i) (rest : List Byte) : decode t (op :: rest) = .ok (i, rest) := by
  simp only [decode, h]

theorem decode_two {f : Byte → Instr} (h : entryOf t op = .two f) (n : Byte) (rest : List Byte) :
    decode t (op :: n :: rest) = .ok (f n, rest) := by simp only [decode, h]

/-- The word is read with its low byte first (R74). -/
theorem decode_three {f : Word → Instr} (h : entryOf t op = .three f) (nn : Word) (rest : List Byte) :
    decode t (op :: nn.extractLsb' 0 8 :: nn.extractLsb' 8 8 :: rest) = .ok (f nn, rest) := by
  simp only [decode, h, imm16_halves]

end Formats

/-- Settles O3: the entry under each form's opcode byte is the form, in the format its operands have. -/
theorem decodeEncode : Obligations.DecodeEncode := by
  intro i rest
  induction i using Instr.forms
  -- the opcode byte alone
  case ldRegReg r r' => cases r <;> cases r' <;> exact decode_one rfl rest
  case ldRegHl r | ldHlReg r | incReg r | decReg r => cases r <;> exact decode_one rfl rest
  case pushPair p | popPair p | addHlPair p | incPair p | decPair p => cases p <;> exact decode_one rfl rest
  case aluReg op r | rotReg op r => cases op <;> cases r <;> exact decode_one rfl rest
  case aluHl op | rotHl op => cases op <;> exact decode_one rfl rest
  case bitReg b r | resReg b r | setBitReg b r => fin_cases b <;> cases r <;> exact decode_one rfl rest
  case bitHl b | resHl b | setBitHl b | rst b => fin_cases b <;> exact decode_one rfl rest
  case retCc cc => cases cc <;> exact decode_one rfl rest
  case unassigned u => cases u <;> exact decode_one rfl rest
  case nop | halt | di | ei | prefix_cb | ret | reti | jp_hl | rlca | rrca | rla | rra | daa | cpl | scf | ccf | inc_atHl
      | dec_atHl | ld_sp_hl | ld_a_atBc | ld_a_atDe | ld_a_atC | ld_a_atHlInc | ld_a_atHlDec | ld_atBc_a | ld_atDe_a
      | ld_atC_a | ld_atHlInc_a | ld_atHlDec_a => exact decode_one rfl rest
  -- one operand byte
  case ldRegImm r n => cases r <;> exact decode_two rfl n rest
  case aluImm op n => cases op <;> exact decode_two rfl n rest
  case jrCc cc e => cases cc <;> exact decode_two rfl e rest
  case stop n | jr_e n | ld_atHl_d8 n | ldh_atA8_a n | ldh_a_atA8 n | add_sp_e n | ld_hl_sp_e n =>
    exact decode_two rfl n rest
  -- two operand bytes
  case ldPairImm p nn => cases p <;> exact decode_three rfl nn rest
  case jpCc cc nn | callCc cc nn => cases cc <;> exact decode_three rfl nn rest
  case jp_a16 nn | call_a16 nn | ld_atA16_sp nn | ld_atA16_a nn | ld_a_atA16 nn => exact decode_three rfl nn rest

/-- Settles O1: each word is the encoding of its instruction, which decodes to it. -/
theorem specWordsDecode : Obligations.SpecWordsDecode :=
  ⟨decodeEncode (.ld_a_d8 0x01) [], decodeEncode .ld_a_b [], decodeEncode (.ld_hl_d16 0x1234) [], decodeEncode .push_af [],
    decodeEncode .add_a_b [], decodeEncode (.cp_a_d8 0x3C) [], decodeEncode .inc_atHl [], decodeEncode .add_hl_bc [],
    decodeEncode (.add_sp_e 0xFE) [], decodeEncode .rlca [], decodeEncode .swap_a [], decodeEncode .bit_4_l [],
    decodeEncode .res_3_atHl [], decodeEncode (.call_nc_a16 0x1234) [], decodeEncode (.jr_nz_e 0xFC) [],
    decodeEncode .rst_28 [], decodeEncode .reti [], decodeEncode .halt [], decodeEncode .unassigned_dd []⟩

/-! Encoding what was decoded. -/

/-- What decodes from bytes encodes to them, in the table it was read from. -/
theorem encode_of_decode {t : Table} {bytes rest : List Byte} {i : Instr} (h : decode t bytes = .ok (i, rest)) :
    bytes = encode i ++ rest ∧ i.table = t := by
  cases bytes with
  | nil => cases h
  | cons op tail =>
    have encodes := entryOf_encodes t op
    cases entry : entryOf t op <;> rw [entry] at encodes
    case one j =>
      obtain ⟨bytes, table⟩ := encodes
      rw [decode_one entry] at h
      cases h
      exact ⟨by rw [bytes]; rfl, table⟩
    case two f =>
      cases tail with
      | nil => simp [decode, entry] at h
      | cons n tail =>
        obtain ⟨bytes, table⟩ := encodes n
        rw [decode_two entry] at h
        cases h
        exact ⟨by rw [bytes]; rfl, table⟩
    case three f =>
      match tail with
      | [] | [_] => simp [decode, entry] at h
      | low :: high :: tail =>
        obtain ⟨lo, hi⟩ := halves_imm16 low high
        obtain ⟨bytes, table⟩ := encodes (imm16 low high)
        have read := decode_three entry (imm16 low high) tail
        rw [lo, hi, h] at read
        cases read
        exact ⟨by rw [bytes, lo, hi]; rfl, table⟩

/-- Bytes decode exactly where there are as many as the entry of the opcode byte asks for (R70). -/
theorem decodes_iff (t : Table) (op : Byte) (rest : List Byte) :
    (∃ r, decode t (op :: rest) = .ok r) ↔ (entryOf t op).length ≤ rest.length + 1 := by
  cases entry : entryOf t op with
  | one i => simp [decode, entry, Entry.length]
  | two f => cases rest <;> simp [decode, entry, Entry.length]
  | three f =>
    match rest with
    | [] | [_] | _ :: _ :: _ => simp [decode, entry, Entry.length]

theorem entry_length_bounds (e : Entry) : 1 ≤ e.length ∧ e.length ≤ 3 := by cases e <;> simp [Entry.length]

theorem cbEntry_length (op : Byte) : (entryOf .cb op).length = 1 := by revert op; decide

/-- Settles O4: `decode` and `encode` by the format of the entry, the lengths by the two tables. -/
theorem encodeDecode : Obligations.EncodeDecode :=
  ⟨fun _ _ _ _ => encode_of_decode, decodes_iff, fun op =>
    and_assoc.mp ⟨entry_length_bounds (entryOf .main op), cbEntry_length op⟩⟩

/-! The unassigned bytes (R78, R237). -/

theorem wf_eq_false_iff {i : Instr} : i.wf = false ↔ ∃ u, i = .unassigned u := by
  constructor
  · intro h
    unfold Instr.wf at h
    split at h
    exacts [⟨.xd3, rfl⟩, ⟨.xdb, rfl⟩, ⟨.xdd, rfl⟩, ⟨.xe3, rfl⟩, ⟨.xe4, rfl⟩, ⟨.xeb, rfl⟩, ⟨.xec, rfl⟩, ⟨.xed, rfl⟩,
      ⟨.xf4, rfl⟩, ⟨.xfc, rfl⟩, ⟨.xfd, rfl⟩, nomatch h]
  · rintro ⟨u, rfl⟩
    cases u <;> rfl

theorem mem_unassignedBytes {op : Byte} : op ∈ unassignedBytes ↔ ∃ u : Unassigned, op = u.byte := by
  constructor
  · intro h
    simp only [unassignedBytes, List.mem_cons, List.not_mem_nil, or_false] at h
    rcases h with e | e | e | e | e | e | e | e | e | e | e
    exacts [⟨.xd3, e⟩, ⟨.xdb, e⟩, ⟨.xdd, e⟩, ⟨.xe3, e⟩, ⟨.xe4, e⟩, ⟨.xeb, e⟩, ⟨.xec, e⟩, ⟨.xed, e⟩, ⟨.xf4, e⟩, ⟨.xfc, e⟩,
      ⟨.xfd, e⟩]
  · rintro ⟨u, rfl⟩
    cases u <;> decide

/-- An unassigned instruction is fetched from its own byte in the main table and from no other: it encodes to what it was
decoded from. -/
theorem decodeFetched_eq_unassigned_iff {t : Table} {op b1 b2 : Byte} {u : Unassigned} :
    decodeFetched t op b1 b2 = .unassigned u ↔ t = .main ∧ op = u.byte := by
  constructor
  · intro h
    obtain ⟨rest, decoded⟩ := decode_fetched t op b1 b2
    obtain ⟨bytes, table⟩ := encode_of_decode decoded
    rw [h, encode_unassigned] at bytes
    rw [h, table_unassigned] at table
    exact ⟨table.symm, (List.cons.inj bytes).1⟩
  · rintro ⟨rfl, rfl⟩
    cases u <;> rfl

/-- Settles O5: the ill-formed instructions are the unassigned ones, and those are fetched from their own bytes alone. -/
theorem unassignedOpcodes : Obligations.UnassignedOpcodes := by
  refine ⟨fun op b1 b2 => ?_, fun op b1 b2 => ?_, fun op b1 b2 s unassigned => ?_⟩
  · simp only [wf_eq_false_iff, mem_unassignedBytes, decodeFetched_eq_unassigned_iff, true_and]
  · rw [← Bool.not_eq_false, wf_eq_false_iff]
    rintro ⟨u, fetched⟩
    cases (decodeFetched_eq_unassigned_iff.mp fetched).1
  · obtain ⟨u, rfl⟩ := mem_unassignedBytes.mp unassigned
    rw [decodeFetched_eq_unassigned_iff.mpr ⟨rfl, rfl⟩, exec_unassigned]
    rfl

/-! How far an instruction advances PC (R72). -/

theorem setsPc_jpCc (cc : Cond) (nn : Word) : setsPc (Instr.jpCc cc nn) = true := by cases cc <;> rfl
theorem setsPc_jrCc (cc : Cond) (e : Byte) : setsPc (Instr.jrCc cc e) = true := by cases cc <;> rfl
theorem setsPc_callCc (cc : Cond) (nn : Word) : setsPc (Instr.callCc cc nn) = true := by cases cc <;> rfl
theorem setsPc_retCc (cc : Cond) : setsPc (Instr.retCc cc) = true := by cases cc <;> rfl
theorem setsPc_rst (b : Fin 8) : setsPc (Instr.rst b) = true := by fin_cases b <;> rfl

theorem retire_pc_of_kept {m s : State} {len : Word} {cost : Byte} (kept : m.cpu.pc = s.cpu.pc) :
    (m.retire len cost).cpu.pc = s.cpu.pc + len := by rw [State.retire_cpu_pc, kept]

/-- An instruction that does not set PC itself ends with its own length added to PC (R72). -/
theorem exec_pc {i : Instr} {s t : State} (h : exec i s = .next t) :
    setsPc i = true ∨ t.cpu.pc = s.cpu.pc + BitVec.ofNat 16 (encode i).length := by
  induction i using Instr.forms
  case unassigned u => cases (exec_unassigned u s).symm.trans h
  -- PC is set
  case jp_a16 | jp_hl | jr_e | call_a16 | ret | reti | prefix_cb => exact .inl rfl
  case jpCc cc nn => exact .inl (setsPc_jpCc cc nn)
  case jrCc cc e => exact .inl (setsPc_jrCc cc e)
  case callCc cc nn => exact .inl (setsPc_callCc cc nn)
  case retCc cc => exact .inl (setsPc_retCc cc)
  case rst b => exact .inl (setsPc_rst b)
  -- PC is advanced
  case stop n =>
    cases hb : s.params.stopBehaviour <;> simp only [exec_of_stop, stop, hb] at h <;> cases h <;> exact .inr rfl
  case ldRegReg | ldRegImm | ldRegHl | ldHlReg | ldPairImm | pushPair | popPair | aluReg | aluHl | aluImm | incReg | decReg
      | addHlPair | incPair | decPair | rotReg | rotHl | bitReg | bitHl | resReg | resHl | setBitReg | setBitHl =>
    simp only [exec_ldRegReg, exec_ldRegImm, exec_ldRegHl, exec_ldHlReg, exec_ldPairImm, exec_pushPair, exec_popPair,
      exec_aluReg, exec_aluHl, exec_aluImm, exec_incReg, exec_decReg, exec_addHlPair, exec_incPair, exec_decPair,
      exec_rotReg, exec_rotHl, exec_bitReg, exec_bitHl, exec_resReg, exec_resHl, exec_setBitReg, exec_setBitHl] at h
    cases h
    exact .inr (by simp)
  case nop | halt | di | ei | rlca | rrca | rla | rra | daa | cpl | scf | ccf | inc_atHl | dec_atHl | ld_sp_hl | ld_a_atBc
      | ld_a_atDe | ld_a_atC | ld_a_atA16 | ldh_a_atA8 | ld_a_atHlInc | ld_a_atHlDec | ld_atBc_a | ld_atDe_a | ld_atC_a
      | ld_atA16_a | ldh_atA8_a | ld_atHl_d8 | ld_atA16_sp | add_sp_e | ld_hl_sp_e =>
    cases h
    exact .inr (retire_pc_of_kept (by simp))
  case ld_atHlInc_a | ld_atHlDec_a =>
    cases h
    exact .inr (retire_pc_of_kept (by rw [State.setHl_cpu_pc, State.storeHl_cpu]))

/-- Settles O42: the costs by what an instruction writes of the CPU, PC by its end. -/
theorem costsAndAdvance : Obligations.CostsAndAdvance := by
  intro i s t h
  obtain ⟨least, most⟩ := (exec_cpu h).cost
  refine ⟨least, most, fun advances => (exec_pc h).resolve_left ?_⟩
  rw [advances]
  exact Bool.false_ne_true

end Sys2Proof.Machine
end

section
/-! The family 40_load8.md. The whole next state of the 8-bit loads and stores (R100 to R118). -/

namespace Sys2Proof.Machine

/-! The end of an instruction: PC advanced by the length from the PC it began with. -/

theorem retire_eq_ends {m : State} {c : Cpu} (kept : m.cpu.pc = c.pc) (len : Word) (cost : Byte) :
    m.retire len cost = m.ends m.cpu (c.pc + len) cost := by rw [← kept]; rfl

theorem setReg_retire (s : State) (r : Reg8) (v : Byte) (len : Word) (cost : Byte) :
    (s.setReg r v).retire len cost = s.ends (s.cpu.setReg r v) (s.cpu.pc + len) cost :=
  retire_eq_ends (Cpu.setReg_pc s.cpu r v) len cost

theorem memWrite_retire (s : State) (a : Word) (v : Byte) (len : Word) (cost : Byte) :
    (memWrite s a v).retire len cost = (memWrite s a v).ends s.cpu (s.cpu.pc + len) cost := by
  rw [retire_eq_ends (congrArg Cpu.pc (memWrite_cpu s a v)), memWrite_cpu]

theorem memWrite_setHl_retire (s : State) (a : Word) (v : Byte) (hl : Word) (len : Word) (cost : Byte) :
    ((memWrite s a v).setHl hl).retire len cost = (memWrite s a v).ends (s.cpu.setHl hl) (s.cpu.pc + len) cost := by
  rw [← memWrite_cpu s a v]; rfl

/-! The shared operations of the loads and stores of A. -/

theorem ldAMem_eq (addr len : Word) (cost : Byte) (s : State) :
    ldAMem addr len cost s = .next (s.ends { s.cpu with a := memRead .data s addr } (s.cpu.pc + len) cost) := rfl

theorem ldMemA_eq (addr len : Word) (cost : Byte) (s : State) :
    ldMemA addr len cost s = .next ((memWrite s addr s.cpu.a).ends s.cpu (s.cpu.pc + len) cost) :=
  congrArg _ (memWrite_retire s addr s.cpu.a len cost)

theorem ldAHlStep_eq (delta : Word) (s : State) :
    ldAHlStep delta s = .next
      (s.ends ({ s.cpu with a := memRead .data s s.cpu.hl }.setHl (s.cpu.hl + delta)) (s.cpu.pc + 1) 2) := rfl

theorem ldHlAStep_eq (delta : Word) (s : State) :
    ldHlAStep delta s = .next
      ((memWrite s s.cpu.hl s.cpu.a).ends (s.cpu.setHl (s.cpu.hl + delta)) (s.cpu.pc + 1) 2) :=
  congrArg _ (memWrite_setHl_retire s s.cpu.hl s.cpu.a (s.cpu.hl + delta) 1 2)

/-- Settles O16: every form is a register write or a byte written to memory, and its end. -/
theorem loadsAndStoresOfRegisters : Obligations.LoadsAndStoresOfRegisters := by
  intro dst src n s
  rw [exec_ldRegReg, exec_ldRegImm, exec_ldRegHl, exec_ldHlReg, exec_of_ld_atHl_d8]
  exact ⟨congrArg _ (setReg_retire s dst (s.cpu.reg src) 1 1), congrArg _ (setReg_retire s dst n 2 2),
    congrArg _ (setReg_retire s dst (memRead .data s s.cpu.hl) 1 2),
    congrArg _ (memWrite_retire s s.cpu.hl (s.cpu.reg src) 1 2), congrArg _ (memWrite_retire s s.cpu.hl n 2 3)⟩

/-- Settles O17: five loads at an address (two in the high page, R73), and the two that move HL by 1 and by -1. -/
theorem loadsOfA : Obligations.LoadsOfA := by
  intro n nn s
  rw [← highPage_eq n, ← highPage_eq s.cpu.c, sub_eq_add_neg s.cpu.hl 1]
  exact ⟨ldAMem_eq s.cpu.bc 1 2 s, ldAMem_eq s.cpu.de 1 2 s, ldAMem_eq nn 3 4 s, ldAMem_eq (highPage n) 2 3 s,
    ldAMem_eq (highPage s.cpu.c) 1 2 s, ldAHlStep_eq 1 s, ldAHlStep_eq (-1) s⟩

/-- Settles O18: five stores at an address (two in the high page, R73), and the two at the old HL that then move HL. -/
theorem storesOfA : Obligations.StoresOfA := by
  intro n nn s
  rw [← highPage_eq n, ← highPage_eq s.cpu.c, sub_eq_add_neg s.cpu.hl 1]
  exact ⟨ldMemA_eq s.cpu.bc 1 2 s, ldMemA_eq s.cpu.de 1 2 s, ldMemA_eq nn 3 4 s, ldMemA_eq (highPage n) 2 3 s,
    ldMemA_eq (highPage s.cpu.c) 1 2 s, ldHlAStep_eq 1 s, ldHlAStep_eq (-1) s⟩

end Sys2Proof.Machine
end

section
/-! The family 41_load16.md. The whole next state of the 16-bit loads and the stack instructions (R120 to R129, R173), and
the round trips over the stack (R126, 45_control.md R220, 60_exceptions.md R270). -/

namespace Sys2Proof.Machine

/-! The end of an instruction that writes a word. -/

theorem memWrite16_retire (s : State) (a v len : Word) (cost : Byte) :
    (memWrite16 s a v).retire len cost = (memWrite16 s a v).ends s.cpu (s.cpu.pc + len) cost := by
  rw [retire_eq_ends (congrArg Cpu.pc (memWrite16_cpu s a v)), memWrite16_cpu]

theorem push16_retire (s : State) (v len : Word) (cost : Byte) :
    (s.push16 v).retire len cost =
      (memWrite16 s (s.cpu.sp - 2) v).ends { s.cpu with sp := s.cpu.sp - 2 } (s.cpu.pc + len) cost := by
  rw [push16_eq]
  rfl

/-! The meanings, each as memory, a CPU and its end. -/

theorem ldHlSp_eq (e : Byte) (s : State) :
    ldHlSp e s = .next (s.ends { s.cpu.setHl (s.cpu.sp + e.signExtend 16) with
        f := flagByte false false (decide (s.cpu.sp.toNat % 16 + e.toNat % 16 > 15))
          (decide (s.cpu.sp.toNat % 256 + e.toNat > 255)) } (s.cpu.pc + 2) 3) := by
  rw [ldHlSp, addSp16_eq, ← packFlags_eq_flagByte]
  rfl

theorem addSp_eq (e : Byte) (s : State) :
    addSp e s = .next (s.ends { s.cpu with
        sp := s.cpu.sp + e.signExtend 16,
        f := flagByte false false (decide (s.cpu.sp.toNat % 16 + e.toNat % 16 > 15))
          (decide (s.cpu.sp.toNat % 256 + e.toNat > 255)) } (s.cpu.pc + 2) 4) := by
  rw [addSp, addSp16_eq, ← packFlags_eq_flagByte]
  rfl

theorem pushPair_eq (p : StackPair) (s : State) :
    pushPair p s = .next ((memWrite16 s (s.cpu.sp - 2) (s.cpu.stackPair p)).ends { s.cpu with sp := s.cpu.sp - 2 }
      (s.cpu.pc + 1) 4) :=
  congrArg _ (push16_retire s (s.cpu.stackPair p) 1 4)

theorem popPair_eq (p : StackPair) (s : State) :
    popPair p s = .next (s.ends ({ s.cpu with sp := s.cpu.sp + 2 }.setStackPair p (memRead16 .data s s.cpu.sp))
      (s.cpu.pc + 1) 3) :=
  congrArg _ (retire_eq_ends (Cpu.setStackPair_pc s.popped.cpu p s.stackTop) 1 3)

/-- Settles O19: a register pair or a word of memory written, and SP plus a displacement into HL or SP (R123, R173). -/
theorem loadsOfPairs : Obligations.LoadsOfPairs := by
  intro p nn e s f
  rw [exec_ldPairImm]
  exact ⟨congrArg _ (retire_eq_ends (Cpu.setPair_pc s.cpu p nn) 3 3), congrArg _ (memWrite16_retire s nn s.cpu.sp 3 5),
    rfl, ldHlSp_eq e s, addSp_eq e s⟩

/-- Settles O20: a push is a word written at the new SP, a pop a pair written from the word at the old SP. -/
theorem pushAndPop : Obligations.PushAndPop := by
  intro p s
  rw [exec_pushPair, exec_popPair]
  exact ⟨pushPair_eq p s, popPair_eq p s⟩

/-! Going on elsewhere keeps the stack: its top is read at SP, and a pop moves SP alone. -/

@[simp] theorem stackTop_goTo (s : State) (target : Word) (cost : Byte) : (s.goTo target cost).stackTop = s.stackTop := rfl
@[simp] theorem stackTop_retire (s : State) (len : Word) (cost : Byte) : (s.retire len cost).stackTop = s.stackTop := rfl
@[simp] theorem stackTop_setHalted (s : State) (v : Bool) : (s.setHalted v).stackTop = s.stackTop := rfl

theorem State.goTo_cpu (s : State) (target : Word) (cost : Byte) :
    (s.goTo target cost).cpu = { s.cpu with pc := target, cyclesRemaining := cost } := rfl

theorem popped_goTo_cpu (s : State) (target : Word) (cost : Byte) :
    (s.goTo target cost).popped.cpu = { s.popped.cpu with pc := target, cyclesRemaining := cost } := rfl

theorem popped_retire_cpu (s : State) (len : Word) (cost : Byte) :
    (s.retire len cost).popped.cpu = { s.popped.cpu with pc := s.popped.cpu.pc + len, cyclesRemaining := cost } := rfl

/-! A pop undoes a push. -/

theorem popped_push16_cpu (s : State) (v : Word) : (s.push16 v).popped.cpu = s.cpu := by
  have back : s.cpu.sp - 2 + 2 = s.cpu.sp := BitVec.sub_add_cancel _ _
  rw [State.popped, State.setSp, State.push16_cpu, back]

/-- The word pushed is on top where both its bytes are plain memory. -/
theorem stackTop_push16 {s : State} (low : plainByte s (s.cpu.sp - 2) = true) (high : plainByte s (s.cpu.sp - 1) = true)
    (v : Word) : (s.push16 v).stackTop = v := by
  have next : s.cpu.sp - 2 + 1 = s.cpu.sp - 1 := by bv_omega
  rw [State.stackTop, State.push16_cpu, push16_eq, memRead16_setCpu]
  obtain ⟨-, -, readBack⟩ := wordAccess .data s (s.cpu.sp - 2) v
  exact (readBack low (next ▸ high)).1

/-- Where a push went on to `target`, a return restores the CPU but for PC, the word pushed, and its own cost. -/
theorem return_push16_cpu {s : State} (low : plainByte s (s.cpu.sp - 2) = true)
    (high : plainByte s (s.cpu.sp - 1) = true) (v target : Word) (cost cost' : Byte) :
    (((s.push16 v).goTo target cost).popped.goTo ((s.push16 v).goTo target cost).stackTop cost').cpu =
      { s.cpu with pc := v, cyclesRemaining := cost' } := by
  rw [State.goTo_cpu, stackTop_goTo, popped_goTo_cpu, popped_push16_cpu, stackTop_push16 low high]

theorem takeInterrupt_cpu (s : State) (source : Fin 5) :
    (s.takeInterrupt source).cpu =
      { s.cpu with ime := false, sp := s.cpu.sp - 2, pc := vectorOf source, cyclesRemaining := 5, halted := false } := by
  simp [State.takeInterrupt, State.setHalted, State.goTo, State.setIf, State.setIme]

theorem stackTop_takeInterrupt {s : State} (low : plainByte s (s.cpu.sp - 2) = true)
    (high : plainByte s (s.cpu.sp - 1) = true) (source : Fin 5) : (s.takeInterrupt source).stackTop = s.cpu.pc := by
  rw [State.takeInterrupt, stackTop_setHalted, stackTop_goTo]
  exact stackTop_push16 (s := (s.setIme false).setIf (s.irq.iflag &&& ~~~((1 : Byte) <<< source.val))) low high s.cpu.pc

/-- The return gives back what interrupt entry took of PC, SP and `ime`; the CPU stays awake (R252, R270). -/
theorem returnFromInterrupt_takeInterrupt_cpu {s : State} (low : plainByte s (s.cpu.sp - 2) = true)
    (high : plainByte s (s.cpu.sp - 1) = true) (enabled : s.cpu.ime = true) (source : Fin 5) (cost : Byte) :
    ((s.takeInterrupt source).returnFromInterrupt cost).cpu =
      { s.cpu with halted := false, cyclesRemaining := cost } := by
  have back : s.cpu.sp - 2 + 2 = s.cpu.sp := BitVec.sub_add_cancel _ _
  rw [State.returnFromInterrupt_cpu, stackTop_takeInterrupt low high, takeInterrupt_cpu, back, ← enabled]

theorem Cpu.setStackPair_goTo (c : Cpu) (p : StackPair) (v pc : Word) (cost : Byte) :
    { c with pc := pc, cyclesRemaining := cost }.setStackPair p v =
      { c.setStackPair p v with pc := pc, cyclesRemaining := cost } := by
  cases p <;> rfl

/-- A pop one instruction after a push loads the word pushed, PC being two instructions on. -/
theorem pop_push16_cpu {s : State} (low : plainByte s (s.cpu.sp - 2) = true) (high : plainByte s (s.cpu.sp - 1) = true)
    (q : StackPair) (v : Word) (cost cost' : Byte) :
    ((((s.push16 v).retire 1 cost).popped.setStackPair q ((s.push16 v).retire 1 cost).stackTop).retire 1 cost').cpu =
      { s.cpu.setStackPair q v with pc := s.cpu.pc + 2, cyclesRemaining := cost' } := by
  have twice : s.cpu.pc + 1 + 1 = s.cpu.pc + 2 := by bv_omega
  rw [State.retire, State.goTo_cpu, State.setStackPair_cpu, stackTop_retire, stackTop_push16 low high, popped_retire_cpu,
    popped_push16_cpu, Cpu.setStackPair_goTo, twice]

/-- Settles O9: `CALL`, `RST` and interrupt entry are a push that goes on elsewhere, and `PUSH` one that goes on to the next
instruction; the laws above undo each. -/
theorem returnsUndoCalls : Obligations.ReturnsUndoCalls := by
  intro s low high
  exact ⟨fun source enabled => ⟨_, exec_of_reti _, returnFromInterrupt_takeInterrupt_cpu low high enabled source 4⟩,
    fun nn => ⟨_, _, exec_of_call_a16 nn s, rfl, exec_of_ret _, return_push16_cpu low high (s.cpu.pc + 3) nn 6 4⟩,
    fun y => ⟨_, _, exec_rst y s, rfl, exec_of_ret _, return_push16_cpu low high (s.cpu.pc + 1) _ 4 4⟩,
    fun p q => ⟨_, _, exec_pushPair p s, exec_popPair q _, pop_push16_cpu low high q (s.cpu.stackPair p) 4 3⟩⟩

end Sys2Proof.Machine
end

section
/-! The family 42_alu8.md. The whole next state of 8-bit arithmetic and logic (R130 to R169), and the decimal sums and
differences that `DAA` makes (the derived property of R166). -/

namespace Sys2Proof.Machine

/-! The end of an instruction that writes a result and its flags. -/

theorem putAlu_retire (s : State) (r : AluResult) (len : Word) (cost : Byte) :
    (s.putAlu r).retire len cost =
      s.ends { s.cpu with a := r.value, f := flagByte r.z r.n r.h r.c } (s.cpu.pc + len) cost := by
  rw [← packFlags_eq_flagByte]
  rfl

theorem putReg_retire (s : State) (reg : Reg8) (r : AluResult) (len : Word) (cost : Byte) :
    (s.putReg reg r).retire len cost =
      s.ends { s.cpu.setReg reg r.value with f := flagByte r.z r.n r.h r.c } (s.cpu.pc + len) cost := by
  have kept : (s.putReg reg r).cpu.pc = s.cpu.pc := Cpu.setReg_pc s.cpu reg r.value
  rw [retire_eq_ends kept, State.putReg_cpu, ← packFlags_eq_flagByte]
  rfl

theorem putHl_retire (s : State) (r : AluResult) (len : Word) (cost : Byte) :
    (s.putHl r).retire len cost =
      (memWrite s s.cpu.hl r.value).ends { s.cpu with f := flagByte r.z r.n r.h r.c } (s.cpu.pc + len) cost := by
  have kept : (s.putHl r).cpu.pc = s.cpu.pc := by rw [State.putHl_cpu, Cpu.setFlags_pc]
  rw [retire_eq_ends kept, State.putHl_cpu, ← packFlags_eq_flagByte]
  rfl

theorem setFlags_retire (s : State) (z n h c : Bool) (len : Word) (cost : Byte) :
    (s.setFlags z n h c).retire len cost = s.ends { s.cpu with f := flagByte z n h c } (s.cpu.pc + len) cost := by
  rw [← packFlags_eq_flagByte]
  rfl

/-! The eight operations on A. -/

theorem and8_eq (a b : Byte) : and8 a b = ⟨a &&& b, decide (a &&& b = 0), false, true, false⟩ := by
  rw [and8, beq_eq_decide]

theorem xor8_eq (a b : Byte) : xor8 a b = ⟨a ^^^ b, decide (a = b), false, false, false⟩ := by
  have zero : decide (a ^^^ b = 0) = decide (a = b) := decide_eq_decide.mpr BitVec.xor_eq_zero_iff
  rw [xor8, beq_eq_decide, zero]

theorem or8_eq (a b : Byte) : or8 a b = ⟨a ||| b, decide (a ||| b = 0), false, false, false⟩ := by
  rw [or8, beq_eq_decide]

/-- `CP` is the subtraction without its value (R134). -/
theorem cpResult_eq (a b : Byte) (carry : Bool) :
    aluResult .cp a b carry =
      ⟨a, decide (a = b), true, decide (a.toNat % 16 < b.toNat % 16), decide (a.toNat < b.toNat)⟩ := by
  rw [aluResult, sub8_eq]

/-- Every form writes the operation's result and retires with the length and cost of the form. -/
theorem AluOperand.exec_eq {op : AluOp} {s : State} {i : Instr} {b : Byte} {len : Word} {cost : Byte}
    (form : AluOperand op s i b len cost) :
    exec i s = .next ((s.putAlu (aluResult op s.cpu.a b s.cpu.flagC)).retire len cost) := by
  cases form with
  | reg r => exact exec_aluReg op r s
  | atHl => exact exec_aluHl op s
  | imm => exact exec_aluImm op b s

theorem AluOperand.exec_ends {op : AluOp} {s : State} {i : Instr} {b : Byte} {len : Word} {cost : Byte}
    (form : AluOperand op s i b len cost) {v : Byte} {z n h c : Bool}
    (result : aluResult op s.cpu.a b s.cpu.flagC = ⟨v, z, n, h, c⟩) :
    exec i s = .next (s.ends { s.cpu with a := v, f := flagByte z n h c } (s.cpu.pc + len) cost) := by
  rw [form.exec_eq, result, putAlu_retire]

/-- Settles O21: every form with the sum of R130, and of R131 with the carry. -/
theorem additionsOnA : Obligations.AdditionsOnA := by
  intro s i b len cost a c
  exact ⟨fun form => form.exec_ends (add8_eq a b), fun form => form.exec_ends (adc8_eq a b c)⟩

/-- Settles O22: every form with the difference of R132, its flags alone (R134), and the difference of R133. -/
theorem subtractionsOnA : Obligations.SubtractionsOnA := by
  intro s i b len cost a c f
  exact ⟨fun form => form.exec_ends (sub8_eq a b), fun form => form.exec_ends (cpResult_eq a b c),
    fun form => form.exec_ends (sbc8_eq a b c)⟩

/-- Settles O23: every form with the bitwise results of R135 to R137. -/
theorem logicOnA : Obligations.LogicOnA := by
  intro s i b len cost a
  exact ⟨fun form => form.exec_ends (and8_eq a b), fun form => form.exec_ends (xor8_eq a b),
    fun form => form.exec_ends (or8_eq a b)⟩

/-! `INC` and `DEC`, `CPL`, `SCF` and `CCF`. -/

/-- Settles O24: the results of R162 and R164, in a register and in the byte at HL. -/
theorem incrementsAndDecrements : Obligations.IncrementsAndDecrements := by
  intro r s up down v m
  rw [exec_incReg, exec_of_inc_atHl, exec_decReg, exec_of_dec_atHl, incReg, incHl, decReg, decHl, putReg_retire,
    putHl_retire, putReg_retire, putHl_retire, inc8_eq, inc8_eq, dec8_eq, dec8_eq]
  exact ⟨rfl, rfl, rfl, rfl⟩

/-- Settles O27: the three write A or F in place; `CPL` complements by an exclusive or with all ones. -/
theorem complementAndCarry : Obligations.ComplementAndCarry := by
  intro s
  have complement : ~~~s.cpu.a = s.cpu.a ^^^ 0xFF := (BitVec.xor_allOnes (x := s.cpu.a)).symm
  rw [complement]
  exact ⟨congrArg _ (setFlags_retire (s.setA (s.cpu.a ^^^ 0xFF)) s.cpu.flagZ true true s.cpu.flagC 1 1),
    congrArg _ (setFlags_retire s s.cpu.flagZ false false true 1 1),
    congrArg _ (setFlags_retire s s.cpu.flagZ false false (!s.cpu.flagC) 1 1)⟩

/-! `DAA` (R166). -/

/-- Whether `DAA` corrects the low digit: by H, and after an addition by the digit. -/
def daaLow (a : Byte) (n h : Bool) : Bool := decide (h = true ∨ (n = false ∧ a.toNat % 16 > 9))

/-- Whether `DAA` corrects the high digit: by C, and after an addition by A. -/
def daaHigh (a : Byte) (n c : Bool) : Bool := decide (c = true ∨ (n = false ∧ a.toNat > 0x99))

/-- The correction of the digits. -/
def daaAdjust (low high : Bool) : Byte := (if low then 0x06 else 0x00) ||| (if high then 0x60 else 0x00)

/-- The value `DAA` leaves in A: the correction is taken back after a subtraction. -/
def daaValue (a : Byte) (n h c : Bool) : Byte :=
  if n then a - daaAdjust (daaLow a n h) (daaHigh a n c) else a + daaAdjust (daaLow a n h) (daaHigh a n c)

theorem toNat_daaAdjust (low high : Bool) :
    (daaAdjust low high).toNat = (if low then 6 else 0) + (if high then 96 else 0) := by
  cases low <;> cases high <;> rfl

theorem ofNat_toNat_add (a b : Byte) : BitVec.ofNat 8 (a.toNat + b.toNat) = a + b :=
  congrArg AluResult.value (add8_eq a b)

theorem ofInt_toNat_sub (a b : Byte) : BitVec.ofInt 8 ((a.toNat : Int) - b.toNat) = a - b :=
  congrArg AluResult.value (sub8_eq a b)

theorem daa8_eq (a : Byte) (n h c : Bool) :
    daa8 a n h c = ⟨daaValue a n h c, decide (daaValue a n h c = 0), n, false, daaHigh a n c⟩ := by
  have low : (h || (!n && decide (loNibble a > 9))) = daaLow a n h := by
    cases n <;> cases h <;> simp [daaLow, loNibble]
  have high : (c || (!n && decide (a.toNat > 0x99))) = daaHigh a n c := by
    cases n <;> cases c <;> simp [daaHigh]
  simp only [daa8, low, high, ← toNat_daaAdjust, ofNat_toNat_add, ofInt_toNat_sub, beq_eq_decide]
  rfl

theorem exec_daa_eq (s : State) :
    exec .daa s = .next (s.ends
      { s.cpu with a := daaValue s.cpu.a s.cpu.flagN s.cpu.flagH s.cpu.flagC,
                   f := flagByte (decide (daaValue s.cpu.a s.cpu.flagN s.cpu.flagH s.cpu.flagC = 0)) s.cpu.flagN false
                     (daaHigh s.cpu.a s.cpu.flagN s.cpu.flagC) } (s.cpu.pc + 1) 1) := by
  rw [exec_of_daa, daa, putAlu_retire, daa8_eq]

/-- Settles O25: `DAA` writes the corrected A and its flags. -/
theorem decimalAdjust : Obligations.DecimalAdjust := fun s => exec_daa_eq s

/-! Decimal arithmetic (the derived property of R166). -/

/-- `DAA` after an operation with an immediate corrects the operation's value by the operation's flags. -/
theorem exec_aluImm_daa {op : AluOp} {s : State} {a b v w : Byte} {z n h c : Bool} {p : Prop} [Decidable p]
    (old : s.cpu.a = a) (result : aluResult op a b s.cpu.flagC = ⟨v, z, n, h, c⟩) (value : daaValue v n h c = w)
    (carry : daaHigh v n c = decide p) :
    ∃ t u, exec (Instr.aluImm op b) s = .next t ∧ exec .daa t = .next u ∧ u.cpu.a = w ∧ (u.cpu.flagC = true ↔ p) := by
  subst old
  refine ⟨_, _, (AluOperand.imm b).exec_ends result, exec_daa_eq _, ?_⟩
  simp only [State.ends, Cpu.flagN, Cpu.flagH, Cpu.flagC, flagByte_bits, value, carry, decide_eq_true_eq, and_self]

theorem toNat_bcdByte {n : Nat} (two : n < 100) : (bcdByte n).toNat = 16 * (n / 10) + n % 10 := by
  rw [bcdByte, BitVec.toNat_ofNat, Nat.mod_eq_of_lt (by omega)]

section
variable {x y : Nat} (hx : x < 100) (hy : y < 100)
include hx hy

/-- After an addition the low digit is corrected where the digits carry: by H from a sum above 15, by the digit below. -/
theorem daaLow_add_bcdByte :
    daaLow (bcdByte x + bcdByte y) false (decide ((bcdByte x).toNat % 16 + (bcdByte y).toNat % 16 > 15)) =
      decide (9 < x % 10 + y % 10) := by
  simp only [daaLow, BitVec.toNat_add, toNat_bcdByte hx, toNat_bcdByte hy, decide_eq_true_eq, true_and]
  exact decide_eq_decide.mpr (by omega)

/-- After an addition the high digit is corrected, and C set, where the decimal sum has three digits. -/
theorem daaHigh_add_bcdByte :
    daaHigh (bcdByte x + bcdByte y) false (decide ((bcdByte x).toNat + (bcdByte y).toNat > 255)) =
      decide (99 < x + y) := by
  simp only [daaHigh, BitVec.toNat_add, toNat_bcdByte hx, toNat_bcdByte hy, decide_eq_true_eq, true_and]
  have unwrapped (n : Nat) : (n > 255 ∨ n % 256 > 0x99) ↔ 0x99 < n := by omega
  refine decide_eq_decide.mpr ((unwrapped _).trans ?_)
  rcases Nat.lt_or_ge 9 (x / 10 + y / 10) with tens | tens <;> omega

theorem daaLow_sub_bcdByte :
    daaLow (bcdByte x - bcdByte y) true (decide ((bcdByte x).toNat % 16 < (bcdByte y).toNat % 16)) =
      decide (x % 10 < y % 10) := by
  simp only [daaLow, toNat_bcdByte hx, toNat_bcdByte hy, decide_eq_true_eq, reduceCtorEq, false_and, or_false]
  exact decide_eq_decide.mpr (by omega)

theorem daaHigh_sub_bcdByte :
    daaHigh (bcdByte x - bcdByte y) true (decide ((bcdByte x).toNat < (bcdByte y).toNat)) = decide (x < y) := by
  simp only [daaHigh, toNat_bcdByte hx, toNat_bcdByte hy, decide_eq_true_eq, reduceCtorEq, false_and, or_false]
  exact decide_eq_decide.mpr (by omega)

/-- The sum of two digit pairs, corrected by 6 where a digit carries. -/
theorem daaValue_add_bcdByte :
    daaValue (bcdByte x + bcdByte y) false (decide ((bcdByte x).toNat % 16 + (bcdByte y).toNat % 16 > 15))
      (decide ((bcdByte x).toNat + (bcdByte y).toNat > 255)) = bcdByte ((x + y) % 100) := by
  have two : (x + y) % 100 < 100 := Nat.mod_lt _ (by decide)
  rw [daaValue, daaLow_add_bcdByte hx hy, daaHigh_add_bcdByte hx hy, if_neg Bool.false_ne_true]
  apply BitVec.eq_of_toNat_eq
  simp only [BitVec.toNat_add, toNat_daaAdjust, toNat_bcdByte hx, toNat_bcdByte hy, toNat_bcdByte two, decide_eq_true_eq]
  split <;> split <;> omega

/-- The difference of two digit pairs, corrected by 6 where a digit borrows. -/
theorem daaValue_sub_bcdByte :
    daaValue (bcdByte x - bcdByte y) true (decide ((bcdByte x).toNat % 16 < (bcdByte y).toNat % 16))
      (decide ((bcdByte x).toNat < (bcdByte y).toNat)) = bcdByte ((x + 100 - y) % 100) := by
  have two : (x + 100 - y) % 100 < 100 := Nat.mod_lt _ (by decide)
  rw [daaValue, daaLow_sub_bcdByte hx hy, daaHigh_sub_bcdByte hx hy, if_pos rfl]
  apply BitVec.eq_of_toNat_eq
  simp only [BitVec.toNat_sub, toNat_daaAdjust, toNat_bcdByte hx, toNat_bcdByte hy, toNat_bcdByte two, decide_eq_true_eq]
  split <;> split <;> omega

end

/-- Settles O26: `DAA` corrects each digit exactly where the decimal digits carry or borrow. -/
theorem decimalArithmetic : Obligations.DecimalArithmetic := by
  intro s x y hx hy a
  have sum := add8_eq (bcdByte x) (bcdByte y)
  have difference := sub8_eq (bcdByte x) (bcdByte y)
  exact ⟨exec_aluImm_daa (op := .add) a sum (daaValue_add_bcdByte hx hy) (daaHigh_add_bcdByte hx hy),
    exec_aluImm_daa (op := .sub) a difference (daaValue_sub_bcdByte hx hy) (daaHigh_sub_bcdByte hx hy)⟩

end Sys2Proof.Machine
end

section
/-! The family 43_alu16.md. The whole next state of 16-bit arithmetic on the register pairs (R170 to R172). -/

namespace Sys2Proof.Machine

theorem addHlPair_eq (p : Pair) (s : State) :
    addHlPair p s = .next (s.ends
      { s.cpu.setHl (s.cpu.hl + s.cpu.pair p) with
        f := flagByte s.cpu.flagZ false (decide (s.cpu.hl.toNat % 4096 + (s.cpu.pair p).toNat % 4096 > 4095))
          (decide (s.cpu.hl.toNat + (s.cpu.pair p).toNat > 65535)) } (s.cpu.pc + 1) 2) := by
  rw [addHlPair, addHl16_eq, setFlags_retire]
  rfl

theorem setPair_retire (s : State) (p : Pair) (v len : Word) (cost : Byte) :
    (s.setPair p v).retire len cost = s.ends (s.cpu.setPair p v) (s.cpu.pc + len) cost :=
  retire_eq_ends (Cpu.setPair_pc s.cpu p v) len cost

/-- Settles O28: the sum of R170 in HL with its flags, and a pair written one up (R171) or one down (R172). -/
theorem pairArithmetic : Obligations.PairArithmetic := by
  intro p s a b
  rw [exec_addHlPair, exec_incPair, exec_decPair]
  exact ⟨addHlPair_eq p s, congrArg _ (setPair_retire s p (b + 1) 1 2), congrArg _ (setPair_retire s p (b - 1) 1 2)⟩

end Sys2Proof.Machine
end

section
/-! The family 44_rotate_shift_bit.md. The whole next state of the rotates, the shifts and the bit operations (R180 to
R205). -/

namespace Sys2Proof.Machine

/-! Rotates and shifts: the result and the carry of the table of section 2, written with their flags. -/

/-- An accumulator rotate takes value and carry from the table; its Z is 0 (R180 to R183). -/
theorem rotAResult_eq (op : RotOp) (a : Byte) (carry : Bool) :
    rotAResult op a carry = ⟨(rotated op a carry).1, false, false, false, (rotated op a carry).2⟩ := by
  rw [rotAResult, rotResult_eq]

theorem rotA_eq (op : RotOp) (s : State) :
    rotA op s = .next (s.ends
      { s.cpu with
        a := (rotated op s.cpu.a s.cpu.flagC).1
        f := flagByte false false false (rotated op s.cpu.a s.cpu.flagC).2 } (s.cpu.pc + 1) 1) := by
  rw [rotA, putAlu_retire, rotAResult_eq]

/-- Settles O29: the four are `rotA`, each with its operation of the table. -/
theorem accumulatorRotates : Obligations.AccumulatorRotates := by
  intro s out
  exact ⟨rotA_eq .rlc s, rotA_eq .rl s, rotA_eq .rrc s, rotA_eq .rr s⟩

/-- Settles O30: the table's result is written to the register, with its flags. -/
theorem rotatesOfRegisters : Obligations.RotatesOfRegisters := by
  intro op r s out
  rw [exec_rotReg, rotReg, rotResult_eq]
  exact congrArg _ (putReg_retire s r ⟨out.1, decide (out.1 = 0), false, false, out.2⟩ 1 1)

/-- Settles O31: the table's result is written back to the byte at HL, with its flags. -/
theorem rotatesAtHl : Obligations.RotatesAtHl := by
  intro op s out
  rw [exec_rotHl, rotHl, rotResult_eq]
  exact congrArg _ (putHl_retire s ⟨out.1, decide (out.1 = 0), false, false, out.2⟩ 1 3)

/-! Bit operations. -/

/-- `BIT` writes F alone: Z the complement of the tested bit, C as it was (R200, R201). -/
theorem testBit_retire (s : State) (b : Fin 8) (v : Byte) (len : Word) (cost : Byte) :
    (s.setCpu (s.cpu.testBit b v)).retire len cost =
      s.ends { s.cpu with f := flagByte (decide (v.toNat / 2 ^ b.val % 2 = 0)) false true s.cpu.flagC }
        (s.cpu.pc + len) cost := by
  rw [← testBit_eq]
  exact setFlags_retire s (!v.getLsbD b) false true s.cpu.flagC len cost

/-- Settles O32: both forms test a byte, the register's or the one at HL. -/
theorem bitTests : Obligations.BitTests := by
  intro b r s f
  rw [exec_bitReg, exec_bitHl]
  exact ⟨congrArg _ (testBit_retire s b (s.cpu.reg r) 1 1),
    congrArg _ (testBit_retire s b (memRead .data s s.cpu.hl) 1 2)⟩

theorem clearBit_eq (b : Fin 8) (v : Byte) : clearBit b v = v &&& ~~~BitVec.ofNat 8 (2 ^ b.val) := by
  rw [clearBit, oneBit_eq]

theorem raiseBit_eq (b : Fin 8) (v : Byte) : raiseBit b v = v ||| BitVec.ofNat 8 (2 ^ b.val) := by
  rw [raiseBit, oneBit_eq]

/-- Settles O33: `RES` and `SET` write the masked byte where they read it, and no flag. -/
theorem resetAndSetBits : Obligations.ResetAndSetBits := by
  intro b r s one m
  rw [exec_resReg, exec_resHl, exec_setBitReg, exec_setBitHl, resReg, resHl, setBitReg, setBitHl, clearBit_eq,
    clearBit_eq, raiseBit_eq, raiseBit_eq]
  exact ⟨congrArg _ (setReg_retire s r (s.cpu.reg r &&& ~~~one) 1 1),
    congrArg _ (memWrite_retire s s.cpu.hl (m &&& ~~~one) 1 3),
    congrArg _ (setReg_retire s r (s.cpu.reg r ||| one) 1 1), congrArg _ (memWrite_retire s s.cpu.hl (m ||| one) 1 3)⟩

end Sys2Proof.Machine
end

section
/-! The family 45_control.md. The whole next state of the jumps, the calls and the returns (R210 to R221). -/

namespace Sys2Proof.Machine

/-! The end of an instruction that sets PC itself: as it is, after a push and after a pop. -/

theorem goTo_eq_ends (s : State) (target : Word) (cost : Byte) : s.goTo target cost = s.ends s.cpu target cost := rfl

theorem push16_goTo (s : State) (v target : Word) (cost : Byte) :
    (s.push16 v).goTo target cost =
      (memWrite16 s (s.cpu.sp - 2) v).ends { s.cpu with sp := s.cpu.sp - 2 } target cost := by
  rw [push16_eq]
  rfl

theorem popped_goTo (s : State) (target : Word) (cost : Byte) :
    s.popped.goTo target cost = s.ends { s.cpu with sp := s.cpu.sp + 2 } target cost := rfl

theorem returnFromInterrupt_eq_ends (s : State) (cost : Byte) :
    s.returnFromInterrupt cost =
      s.ends { s.cpu with sp := s.cpu.sp + 2, ime := true } (memRead16 .data s s.cpu.sp) cost :=
  congrArg (State.setIme · true) (popped_goTo s s.stackTop cost)

/-- Settles O34: a jump writes PC and its cost alone; where its condition fails it retires with its own length and cost. -/
theorem jumps : Obligations.Jumps := by
  intro cc nn e s relative
  rw [exec_of_jp_a16, exec_jpCc, exec_of_jp_hl, exec_of_jr_e, exec_jrCc, jump, jumpIf, jumpHl, jumpRel, jumpRelIf]
  exact ⟨congrArg _ (goTo_eq_ends s nn 4),
    congrArg _ (if_congr Iff.rfl (goTo_eq_ends s nn 4) (retire_eq_ends rfl 3 3)),
    congrArg _ (goTo_eq_ends s s.cpu.hl 1), congrArg _ (goTo_eq_ends s relative 3),
    congrArg _ (if_congr Iff.rfl (goTo_eq_ends s relative 3) (retire_eq_ends rfl 2 2))⟩

/-- Settles O35: a call pushes the address after the instruction and sets PC; where its condition fails it retires. -/
theorem calls : Obligations.Calls := by
  intro cc nn y s pushed cpu
  rw [exec_of_call_a16, exec_callCc, exec_rst, call, callIf, restart]
  have taken := push16_goTo s (s.cpu.pc + 3) nn 6
  exact ⟨congrArg _ taken, congrArg _ (if_congr Iff.rfl taken (retire_eq_ends rfl 3 3)),
    congrArg _ (push16_goTo s (s.cpu.pc + 1) (BitVec.ofNat 16 (8 * y.val)) 4)⟩

/-- Settles O36: a return sets PC to the word it pops, and `RETI` then `ime`; where its condition fails it retires. -/
theorem returns : Obligations.Returns := by
  intro cc s target cpu
  rw [exec_of_ret, exec_retCc, exec_of_reti, ret, returnIf, reti]
  exact ⟨congrArg _ (popped_goTo s target 4),
    congrArg _ (if_congr Iff.rfl (popped_goTo s target 5) (retire_eq_ends rfl 1 2)),
    congrArg _ (returnFromInterrupt_eq_ends s 4)⟩

end Sys2Proof.Machine
end

section
/-! The family 46_misc_system.md. The whole next state of the system instructions (R230 to R236), and of every `CpuStep`
that is no fetch or is the one that wakes a halted CPU (R250, R251, R278). -/

namespace Sys2Proof.Machine

/-! A `CpuStep` that runs no instruction. -/

/-- A halted CPU with nothing pending idles (60_exceptions.md R250 step 1). -/
theorem cpuStep_of_idle {s : State} (halted : s.cpu.halted = true) (none : s.pending = 0) : cpuStep s = .next s := by
  rcases cpuStep_cases s with ⟨-, -, e⟩ | ⟨awake, -, -⟩ | ⟨⟨awake, -⟩, -, -⟩ | ⟨⟨awake, -⟩, -, -⟩
  · exact e
  all_goals exact absurd ⟨halted, none⟩ awake

/-- A CPU that does not idle and has not reached its last cycle counts down (60_exceptions.md R250 steps 2 and 3). -/
theorem cpuStep_of_inFlight {s : State} (awake : s.cpu.halted = false ∨ s.pending ≠ 0)
    (more : s.cpu.cyclesRemaining ≠ 1) : cpuStep s = .next s.countDown := by
  rcases cpuStep_cases s with ⟨halted, none, -⟩ | ⟨-, -, e⟩ | ⟨⟨-, last⟩, -, -⟩ | ⟨⟨-, last⟩, -, -⟩
  · exact absurd awake (by simp [halted, none])
  · exact e
  all_goals exact absurd last more

/-- A request wakes a halted CPU on its last cycle, and without `ime` the step fetches (60_exceptions.md R251, R278). -/
theorem cpuStep_of_wake {s : State} (last : s.cpu.cyclesRemaining = 1) (requested : s.pending ≠ 0)
    (disabled : s.cpu.ime = false) : cpuStep s = exec s.fetched (toFetch s) :=
  cpuStep_of_atFetch ⟨fun idle => requested idle.2, last⟩ (by simp [disabled])

/-! The end of an instruction that writes one field of the control state. -/

theorem setHalted_retire (s : State) (v : Bool) (len : Word) (cost : Byte) :
    (s.setHalted v).retire len cost = s.ends { s.cpu with halted := v } (s.cpu.pc + len) cost := rfl

theorem setIme_retire (s : State) (v : Bool) (len : Word) (cost : Byte) :
    (s.setIme v).retire len cost = s.ends { s.cpu with ime := v } (s.cpu.pc + len) cost := rfl

theorem setCbPending_retire (s : State) (v : Bool) (len : Word) (cost : Byte) :
    (s.setCbPending v).retire len cost = s.ends { s.cpu with cbPrefixPending := v } (s.cpu.pc + len) cost := rfl

/-! `STOP` under each value of `STOP_BEHAVIOUR` (R233). -/

theorem stop_of_nop2 {s : State} (h : s.params.stopBehaviour = .nop2) : stop s = .next (s.retire 2 1) := by
  rw [stop, h]

theorem stop_of_halt {s : State} (h : s.params.stopBehaviour = .halt) :
    stop s = .next ((s.setHalted true).retire 2 1) := by
  rw [stop, h]

theorem stop_of_fault {s : State} (h : s.params.stopBehaviour = .fault) :
    stop s = .fault (.decodeFault 0x10 s.cpu.pc) := by
  rw [stop, h]

/-- Settles O7: `HALT` by its end, the other three by the part of R250 that the step comes to. -/
theorem waitingAndWaking : Obligations.WaitingAndWaking := by
  refine ⟨fun s => ?_, fun s => cpuStep_of_idle, fun s => cpuStep_of_inFlight, fun s _ => cpuStep_of_wake⟩
  rw [exec_of_halt, halt, setHalted_retire]

/-- Settles O37: each writes at most one field of the control state and retires, `STOP` as its parameter says. -/
theorem systemInstructions : Obligations.SystemInstructions := by
  intro n s
  rw [exec_of_nop, exec_of_di, exec_of_ei, exec_of_prefix_cb, exec_of_stop, nop, di, ei, prefixCb]
  refine ⟨congrArg _ (retire_eq_ends rfl 1 1), congrArg _ (setIme_retire s false 1 1),
    congrArg _ (setIme_retire s true 1 1), congrArg _ (setCbPending_retire s true 1 1), fun nop2 => ?_,
    fun haltLike => ?_, stop_of_fault⟩
  · rw [stop_of_nop2 nop2, retire_eq_ends rfl]
  · rw [stop_of_halt haltLike, setHalted_retire]

end Sys2Proof.Machine
end

section
/-! The family 60_exceptions.md, the step and the frame. A run's place in the frame and its modes (R301, R302, R311, R326),
interrupt entry (R252), the steps that fault (R240) and those that are refused (R301). -/

namespace Sys2Proof.Machine

/-! The line the timing clauses describe. -/

/-- The place in the frame is one of 154 lines and 114 ticks. -/
theorem Ppu.timing.line {p : Ppu} {rate : Nat} (h : p.timing rate) (two : 2 ≤ rate) :
    p.ly.toNat ≤ 153 ∧ p.lineCycle < 114 := by
  unfold Ppu.timing at h
  split at h
  case h_2 =>
    have drawn : 2 * p.modeCycleCounter ≤ rate * p.modeCycleCounter := Nat.mul_le_mul_right _ two
    omega
  all_goals omega

/-- At four pixels a tick and more the 167 pixels of a line are drawn in 43 ticks, so the place in the line is the mode. -/
theorem Ppu.timing.mode_eq {p : Ppu} {rate : Nat} (h : p.timing rate) (four : 4 ≤ rate) :
    p.mode =
      if 144 ≤ p.ly.toNat then .vBlank
      else if p.lineCycle < 20 then .oamSearch
      else if p.lineCycle < 63 then .pixelTransfer
      else .hBlank := by
  unfold Ppu.timing at h
  cases mode : p.mode <;> rw [mode] at h
  case oamSearch =>
    obtain ⟨visible, inLine, early⟩ := h
    rw [if_neg (by omega), if_pos (by omega)]
  case pixelTransfer =>
    obtain ⟨visible, inLine, drawing⟩ := h
    have drawn : 4 * p.modeCycleCounter ≤ rate * p.modeCycleCounter := Nat.mul_le_mul_right _ four
    rw [if_neg (by omega), if_neg (by omega), if_pos (by omega)]
  case hBlank =>
    obtain ⟨visible, -, -, late⟩ := h
    have late := late four
    rw [if_neg (by omega), if_neg (by omega), if_neg (by omega)]
  case vBlank => rw [if_pos h.1]

/-! Runs. -/

theorem run_succ {M : Host.Core} {n : Nat} {s t : M.State} (h : M.run (n + 1) s = .next t) :
    ∃ u, M.step s = .next u ∧ M.run n u = .next t := by
  unfold Host.Core.run at h
  cases first : M.step s <;> rw [first] at h
  case next u => exact ⟨u, rfl, h⟩
  all_goals cases h

/-- Settles O57: by induction on the run; each step keeps the invariant, moves one tick on and sets the pulse. -/
theorem frameLasts17556Ticks : Obligations.FrameLasts17556Ticks := by
  intro n
  induction n with
  | zero =>
    intro s t inv run
    cases run
    obtain ⟨line, tick⟩ := inv.timing.line inv.rate
    refine ⟨?_, fun more => absurd more (Nat.lt_irrefl 0)⟩
    unfold framePosition
    omega
  | succ n ih =>
    intro s t inv run
    obtain ⟨u, first, rest⟩ := run_succ run
    have stepped := step_stepped inv first
    obtain ⟨position, pulse⟩ := ih u t (invStep s u inv first) rest
    have moved : framePosition u = (framePosition s + 1) % 17556 := stepped.position
    refine ⟨by omega, fun _ => ?_⟩
    cases n with
    | zero =>
      cases rest
      rw [stepped.pulse, decide_eq_true_iff]
    | succ n => exact pulse n.succ_pos

/-- Settles O58: the timing clauses after the step, whose rate is the one before it. -/
theorem modeByLinePosition : Obligations.ModeByLinePosition := by
  intro s t inv four h
  exact (step_stepped inv h).ppu.timing.mode_eq four

/-! Interrupt entry. -/

/-- The source served is pending and none before it is (R264). -/
theorem highestPriority_least {s : State} (requested : s.pending ≠ 0) :
    s.pending.getLsbD (highestPriority s.pending) = true ∧
      ∀ j : Fin 5, j < highestPriority s.pending → s.pending.getLsbD j = false := by
  have least : ∀ p : Byte, p &&& 0x1F ≠ 0 → (p &&& 0x1F).getLsbD (highestPriority (p &&& 0x1F)) = true ∧
      ∀ j : Fin 5, j < highestPriority (p &&& 0x1F) → (p &&& 0x1F).getLsbD j = false := by decide
  exact least (s.irq.ie &&& s.irq.iflag) requested

/-- A word is stored alike whatever the CPU, which the end of an instruction rewrites. -/
theorem memWrite16_setCpu_ends (s : State) (c c' : Cpu) (a v pc : Word) (cost : Byte) :
    (memWrite16 (s.setCpu c) a v).ends c' pc cost = (memWrite16 s a v).ends c' pc cost := by
  rw [memWrite16_setCpu]
  rfl

/-- Interrupt entry as a store of PC and an end at the vector (R252, R253). -/
theorem takeInterrupt_eq_ends (s : State) (i : Fin 5) :
    s.takeInterrupt i =
      (memWrite16 (s.setIf (s.irq.iflag &&& ~~~((1 : Byte) <<< i.val))) (s.cpu.sp - 2) s.cpu.pc).ends
        { s.cpu with ime := false, sp := s.cpu.sp - 2, halted := false } (vectorOf i) 5 := by
  unfold State.takeInterrupt
  dsimp only
  rw [push16_goTo]
  exact memWrite16_setCpu_ends (s.setIf (s.irq.iflag &&& ~~~((1 : Byte) <<< i.val))) { s.cpu with ime := false }
    { s.cpu with ime := false, sp := s.cpu.sp - 2, halted := false } (s.cpu.sp - 2) s.cpu.pc (vectorOf i) 5

theorem cpuStep_of_service {s : State} (hf : AtFetch s) (enabled : s.cpu.ime = true) (requested : s.pending ≠ 0) :
    cpuStep s = .next s.countDown.service := by
  obtain ⟨awake, last⟩ := hf
  rcases cpuStep_cases s with ⟨halted, none, -⟩ | ⟨-, more, -⟩ | ⟨-, -, e⟩ | ⟨-, unserved, -⟩
  · exact absurd ⟨halted, none⟩ awake
  · exact absurd last more
  · exact e
  · exact absurd ⟨enabled, requested⟩ unserved

/-- Settles O8: the step is interrupt entry for the source `highestPriority` finds. -/
theorem serviceTakesLeastPending : Obligations.ServiceTakesLeastPending := by
  intro s hf enabled requested
  obtain ⟨pending, least⟩ := highestPriority_least requested
  refine ⟨highestPriority s.pending, pending, least, ?_⟩
  rw [cpuStep_of_service hf enabled requested]
  congr 1
  show s.countDown.takeInterrupt (highestPriority s.pending) = _
  rw [takeInterrupt_eq_ends]
  exact memWrite16_setCpu_ends (s.setIf _) s.countDown.cpu _ _ _ _ _

/-! The steps that fault and those that are refused. -/

theorem stop_fault_iff {s : State} {r : Fault} :
    stop s = .fault r ↔ s.params.stopBehaviour = .fault ∧ r = .decodeFault 0x10 s.cpu.pc := by
  cases h : s.params.stopBehaviour with
  | nop2 => simp [stop_of_nop2 h]
  | halt => simp [stop_of_halt h]
  | fault => simp [stop_of_fault h, eq_comm]

/-- The instructions that fault: the unassigned ones, and `STOP` where its parameter says so (46_misc_system.md R233,
R237). -/
theorem exec_fault {i : Instr} {s : State} {r : Fault} (h : exec i s = .fault r) :
    (∃ u, i = .unassigned u ∧ r = .decodeFault u.byte s.cpu.pc) ∨
      (∃ n, i = .stop n ∧ s.params.stopBehaviour = .fault ∧ r = .decodeFault 0x10 s.cpu.pc) := by
  induction i using Instr.forms
  case unassigned u =>
    cases (exec_unassigned u s).symm.trans h
    exact .inl ⟨u, rfl, rfl⟩
  case stop n => exact .inr ⟨n, rfl, stop_fault_iff.mp h⟩
  case ldRegReg | ldRegImm | ldRegHl | ldHlReg | ldPairImm | pushPair | popPair | aluReg | aluHl | aluImm | incReg | decReg
      | addHlPair | incPair | decPair | rotReg | rotHl | bitReg | bitHl | resReg | resHl | setBitReg | setBitHl | jpCc | jrCc
      | callCc | retCc | rst =>
    simp only [exec_ldRegReg, exec_ldRegImm, exec_ldRegHl, exec_ldHlReg, exec_ldPairImm, exec_pushPair, exec_popPair,
      exec_aluReg, exec_aluHl, exec_aluImm, exec_incReg, exec_decReg, exec_addHlPair, exec_incPair, exec_decPair,
      exec_rotReg, exec_rotHl, exec_bitReg, exec_bitHl, exec_resReg, exec_resHl, exec_setBitReg, exec_setBitHl, exec_jpCc,
      exec_jrCc, exec_callCc, exec_retCc, exec_rst] at h
    cases h
  all_goals cases h

/-- `STOP` is fetched from its own byte in the main table and from no other. -/
theorem decodeFetched_eq_stop_iff {t : Table} {op b1 b2 : Byte} :
    (∃ n, decodeFetched t op b1 b2 = .stop n) ↔ t = .main ∧ op = 0x10 := by
  constructor
  · rintro ⟨n, h⟩
    obtain ⟨rest, decoded⟩ := decode_fetched t op b1 b2
    obtain ⟨bytes, table⟩ := encode_of_decode decoded
    rw [h] at bytes table
    exact ⟨table.symm, (List.cons.inj bytes).1⟩
  · rintro ⟨rfl, rfl⟩
    exact ⟨b1, rfl⟩

theorem exec_fault_iff {i : Instr} {s : State} {r : Fault} :
    exec i s = .fault r ↔
      (∃ u, i = .unassigned u ∧ r = .decodeFault u.byte s.cpu.pc) ∨
        (∃ n, i = .stop n ∧ s.params.stopBehaviour = .fault ∧ r = .decodeFault 0x10 s.cpu.pc) := by
  constructor
  · exact exec_fault
  · rintro (⟨u, rfl, rfl⟩ | ⟨n, rfl, faults⟩)
    · exact exec_unassigned u s
    · exact stop_fault_iff.mpr faults

theorem cpuStep_fault_iff {s : State} {r : Fault} :
    cpuStep s = .fault r ↔
      AtFetch s ∧ ¬(s.cpu.ime = true ∧ s.pending ≠ 0) ∧ exec s.fetched (toFetch s) = .fault r := by
  constructor
  · intro h
    rcases cpuStep_cases s with ⟨-, -, e⟩ | ⟨-, -, e⟩ | ⟨-, -, e⟩ | ⟨hf, hi, e⟩ <;> rw [e] at h
    · cases h
    · cases h
    · cases h
    · exact ⟨hf, hi, h⟩
  · rintro ⟨hf, hi, h⟩
    rw [cpuStep_of_atFetch hf hi, h]

theorem fetchTable_eq_main {s : State} : s.fetchTable = .main ↔ s.cpu.cbPrefixPending = false := by
  unfold State.fetchTable
  cases s.cpu.cbPrefixPending <;> simp

/-- Settles O10: a step faults where `exec` of the fetched instruction does, and the faulting instructions are fetched from
their own main-table bytes alone. -/
theorem stepFaultsExactlyWhen : Obligations.StepFaultsExactlyWhen := by
  intro s op pc h2
  rw [step_fault_iff s _ h2, cpuStep_fault_iff, exec_fault_iff]
  refine and_congr_right fun _ => and_congr_right fun _ => ?_
  rw [← fetchTable_eq_main]
  constructor
  · rintro (⟨u, fetched, fault⟩ | ⟨n, fetched, faults, fault⟩) <;> cases fault
    · obtain ⟨table, byte⟩ := decodeFetched_eq_unassigned_iff.mp fetched
      exact ⟨table, rfl, byte.symm, .inl (mem_unassignedBytes.mpr ⟨u, rfl⟩)⟩
    · obtain ⟨table, byte⟩ := decodeFetched_eq_stop_iff.mp ⟨n, fetched⟩
      exact ⟨table, rfl, byte.symm, .inr ⟨rfl, faults⟩⟩
  · rintro ⟨table, rfl, byte, unassigned | ⟨rfl, faults⟩⟩
    · obtain ⟨u, rfl⟩ := mem_unassignedBytes.mp unassigned
      exact .inl ⟨u, decodeFetched_eq_unassigned_iff.mpr ⟨table, byte.symm⟩, rfl⟩
    · obtain ⟨n, fetched⟩ := decodeFetched_eq_stop_iff.mpr ⟨table, byte.symm⟩
      exact .inr ⟨n, fetched, faults, rfl⟩

/-- Settles O11: the check of the rate refuses, and nothing after it does. -/
theorem stepRefusesExactlyWhen : Obligations.StepRefusesExactlyWhen := by
  intro s
  constructor
  · rintro ⟨r, refused⟩
    by_contra fast
    exact step_not_refused s r (Nat.le_of_not_lt fast) refused
  · intro slow
    exact ⟨.pixelRateBelowTwo, if_pos slow⟩

end Sys2Proof.Machine
end

section
/-! The family 60_exceptions.md, the timer. One step by its cases (R280, R282) and the periods of TIMA (R281). -/

namespace Sys2Proof.Machine

/-! One step. -/

theorem timerBit_eq (tac : Byte) : timerBit tac = [9, 3, 5, 7].getD (tac.toNat % 4) 0 := by
  revert tac
  decide

theorem timerStep_of_off {s : State} (off : s.timer.tac.getLsbD 2 = false) : timerStep s = advanceDiv s :=
  if_neg (Bool.not_eq_true _ ▸ off)

theorem timerStep_of_on {s : State} (on : s.timer.tac.getLsbD 2 = true) : timerStep s = sampleTimer (advanceDiv s) :=
  if_pos on

theorem sampleTimer_of_level {s : State} {cur : Bool} (sample : s.timer.fullDiv.getLsbD (timerBit s.timer.tac) = cur)
    (level : ¬(s.timer.timerPrev = true ∧ cur = false)) :
    sampleTimer s = { s with timer := { s.timer with timerPrev := cur } } := by
  unfold sampleTimer
  dsimp only
  rw [sample, if_neg level]

theorem sampleTimer_of_fall {s : State} {cur : Bool} (sample : s.timer.fullDiv.getLsbD (timerBit s.timer.tac) = cur)
    (high : s.timer.timerPrev = true) (low : cur = false) :
    sampleTimer s = { timaTick s with timer := { (timaTick s).timer with timerPrev := cur } } := by
  unfold sampleTimer
  dsimp only
  rw [sample, if_pos ⟨high, low⟩]

theorem timaTick_of_below {s : State} (below : s.timer.tima ≠ 0xFF) :
    timaTick s = { s with timer := { s.timer with tima := s.timer.tima + 1 } } := if_neg below

theorem timaTick_of_full {s : State} (full : s.timer.tima = 0xFF) :
    timaTick s = { s with timer := { s.timer with tima := s.timer.tma } }.request 2 := if_pos full

/-- Settles O49: off, the divider alone; on, the sample, and on its falling edge `TimaTick` in its two cases. -/
theorem timerStepRule : Obligations.TimerStepRule := by
  intro s div cur counted sampled
  have sample : (advanceDiv s).timer.fullDiv.getLsbD (timerBit (advanceDiv s).timer.tac) = cur := by
    rw [timerBit_eq]
    rfl
  refine ⟨timerStep_of_off, fun on level => ?_, fun on high low below => ?_, fun on high low full => ?_⟩ <;>
    rw [timerStep_of_on on]
  · exact sampleTimer_of_level sample level
  · rw [sampleTimer_of_fall sample high low, timaTick_of_below (show (advanceDiv s).timer.tima ≠ 0xFF from below)]
    rfl
  · rw [sampleTimer_of_fall sample high low, timaTick_of_full (show (advanceDiv s).timer.tima = 0xFF from full)]
    rfl

/-! The periods. -/

/-- Counting on by 4, a bit above bit 1 falls exactly where the number passes a multiple of twice its weight. -/
theorem crossings_add_four {bit : Nat} (above : 2 ≤ bit) (x : Nat) :
    (x + 4) / 2 ^ (bit + 1) =
      x / 2 ^ (bit + 1) + if x.testBit bit = true ∧ (x + 4).testBit bit = false then 1 else 0 := by
  have weight : 2 ^ 2 ≤ 2 ^ bit := Nat.pow_le_pow_right (by decide) above
  have low : x / 2 ^ bit ≤ (x + 4) / 2 ^ bit := Nat.div_le_div_right (by omega)
  have high : (x + 4) / 2 ^ bit ≤ x / 2 ^ bit + 1 := by
    rw [← Nat.add_div_right x (by omega)]
    exact Nat.div_le_div_right (by omega)
  rw [Nat.pow_succ, ← Nat.div_div_eq_div_mul, ← Nat.div_div_eq_div_mul, Nat.testBit_eq_decide_div_mod_eq,
    Nat.testBit_eq_decide_div_mod_eq]
  simp only [decide_eq_true_iff, decide_eq_false_iff_not]
  split <;> omega

/-- How often the divider of `s` passes a multiple of `2 ^ (bit + 1)` in `n` steps. -/
def divCrossings (s : State) (bit n : Nat) : Nat :=
  (s.timer.fullDiv.toNat + 4 * n) / 2 ^ (bit + 1) - s.timer.fullDiv.toNat / 2 ^ (bit + 1)

theorem divCrossings_succ {bit : Nat} (above : 2 ≤ bit) (s : State) (n : Nat) :
    divCrossings s bit (n + 1) = divCrossings s bit n +
      if (s.timer.fullDiv.toNat + 4 * n).testBit bit = true ∧ (s.timer.fullDiv.toNat + 4 * n + 4).testBit bit = false
      then 1 else 0 := by
  have started : s.timer.fullDiv.toNat / 2 ^ (bit + 1) ≤ (s.timer.fullDiv.toNat + 4 * n) / 2 ^ (bit + 1) :=
    Nat.div_le_div_right (by omega)
  have crossed := crossings_add_four above (s.timer.fullDiv.toNat + 4 * n)
  unfold divCrossings
  rw [Nat.mul_succ, ← Nat.add_assoc, crossed]
  omega

/-- In a period the divider passes one multiple, and no more before its end. -/
theorem divCrossings_period {bit period : Nat} (length : 4 * period = 2 ^ (bit + 1)) (s : State) :
    divCrossings s bit period = 1 := by
  unfold divCrossings
  rw [length, Nat.add_div_right _ (Nat.two_pow_pos _)]
  omega

theorem divCrossings_le {bit period n : Nat} (length : 4 * period = 2 ^ (bit + 1)) (s : State) (within : n ≤ period) :
    divCrossings s bit n ≤ 1 := by
  rw [← divCrossings_period length s]
  exact Nat.sub_le_sub_right (Nat.div_le_div_right (by omega)) _

/-- `t` is where `n` timer steps from `s` lead with the timer on, selected bit `bit` and no overflow. -/
structure TimerRan (bit : Nat) (s : State) (n : Nat) (t : State) : Prop where
  tac : t.timer.tac = s.timer.tac
  div : t.timer.fullDiv = BitVec.ofNat 16 (s.timer.fullDiv.toNat + 4 * n)
  sample : t.timer.timerPrev = t.timer.fullDiv.getLsbD bit
  tima : t.timer.tima = s.timer.tima + BitVec.ofNat 8 (divCrossings s bit n)
  irq : t.irq = s.irq

theorem getLsbD_ofNat_word {bit : Nat} (inWord : bit < 16) (x : Nat) : (BitVec.ofNat 16 x).getLsbD bit = x.testBit bit := by
  rw [BitVec.getLsbD_ofNat, decide_eq_true inWord, Bool.true_and]

/-- One more step within the period: TIMA counts where the bit falls, which it has not done before, so it cannot overflow. -/
theorem TimerRan.step {bit n : Nat} {s t : State} (h : TimerRan bit s n t) (on : s.timer.tac.getLsbD 2 = true)
    (selected : bit = [9, 3, 5, 7].getD (s.timer.tac.toNat % 4) 0) (above : 2 ≤ bit) (inWord : bit < 16)
    (below : s.timer.tima ≠ 0xFF) (once : divCrossings s bit (n + 1) ≤ 1) : TimerRan bit s (n + 1) (timerStep t) := by
  have div : t.timer.fullDiv + 4 = BitVec.ofNat 16 (s.timer.fullDiv.toNat + 4 * n + 4) := by
    rw [h.div]
    exact (BitVec.ofNat_add _ 4).symm
  have before : t.timer.timerPrev = (s.timer.fullDiv.toNat + 4 * n).testBit bit := by
    rw [h.sample, h.div, getLsbD_ofNat_word inWord]
  have after : (t.timer.fullDiv + 4).getLsbD bit = (s.timer.fullDiv.toNat + 4 * n + 4).testBit bit := by
    rw [div, getLsbD_ofNat_word inWord]
  have crossed := divCrossings_succ above s n
  rw [← before, ← after] at crossed
  obtain ⟨-, level, fall, -⟩ := timerStepRule t
  rw [h.tac, ← selected] at level fall
  by_cases falls : t.timer.timerPrev = true ∧ (t.timer.fullDiv + 4).getLsbD bit = false
  · rw [if_pos falls] at crossed
    have first : divCrossings s bit n = 0 := by omega
    have tima : t.timer.tima = s.timer.tima := by rw [h.tima, first]; exact BitVec.add_zero _
    rw [fall on falls.1 falls.2 (tima ▸ below)]
    exact ⟨h.tac, div, rfl, by rw [crossed, first, tima]; rfl, h.irq⟩
  · rw [if_neg falls] at crossed
    rw [level on falls]
    exact ⟨h.tac, div, rfl, by rw [crossed]; exact h.tima, h.irq⟩

theorem timaPeriods {select bit period : Nat} (two : select < 4)
    (row : (bit, period) = [(9, 256), (3, 4), (5, 16), (7, 64)].getD select (0, 0)) :
    bit = [9, 3, 5, 7].getD select 0 ∧ 2 ≤ bit ∧ bit < 16 ∧ 4 * period = 2 ^ (bit + 1) := by
  interval_cases select <;> cases row <;> decide

/-- Settles O50: by induction on the steps up to the period, in which the selected bit falls once. -/
theorem timaPeriod : Obligations.TimaPeriod := by
  intro s bit period row on _ agrees below
  obtain ⟨selected, above, inWord, length⟩ := timaPeriods (Nat.mod_lt _ (by decide)) row
  have ran : ∀ n ≤ period, TimerRan bit s n (timerStep^[n] s) := by
    intro n
    induction n with
    | zero => exact fun _ => ⟨rfl, by simp, agrees, by simp [divCrossings], rfl⟩
    | succ n ih =>
      intro within
      rw [Function.iterate_succ_apply']
      exact (ih (by omega)).step on selected above inWord below (divCrossings_le length s within)
  have last := ran period (Nat.le_refl _)
  exact ⟨by rw [last.tima, divCrossings_period length]; rfl, last.irq⟩

end Sys2Proof.Machine
end

section
/-! The family 60_exceptions.md, the pixel pipeline. OAM search (R305), the tile fetch (R313), the sprite merge (R315), the
mixing rule (R316) and the window trigger (R312). -/

namespace Sys2Proof.Machine

/-! OAM search. -/

/-- The order of the visible list: by screen x, equal ones in OAM order. -/
def VisibleSprite.Before (v w : VisibleSprite) : Prop :=
  v.screenX < w.screenX ∨ (v.screenX = w.screenX ∧ v.index < w.index)

theorem insertSprite_before {v : VisibleSprite} {vs : List VisibleSprite} (sorted : vs.Pairwise VisibleSprite.Before)
    (first : ∀ w ∈ vs, v.index < w.index) : (insertSprite v vs).Pairwise VisibleSprite.Before := by
  induction vs with
  | nil => exact List.pairwise_singleton _ _
  | cons w ws ih =>
    obtain ⟨head, tail⟩ := List.pairwise_cons.mp sorted
    obtain ⟨firstHead, firstTail⟩ := List.forall_mem_cons.mp first
    unfold insertSprite
    split
    case isTrue left =>
      have before : v.Before w := (lt_or_eq_of_le left).imp_right fun same => ⟨same, firstHead⟩
      refine List.pairwise_cons.mpr ⟨List.forall_mem_cons.mpr ⟨before, fun u inTail => ?_⟩, sorted⟩
      have leftHead : w.screenX ≤ u.screenX := (head u inTail).elim le_of_lt fun same => le_of_eq same.1
      exact (lt_or_eq_of_le (left.trans leftHead)).imp_right fun same => ⟨same, firstTail u inTail⟩
    case isFalse right =>
      refine List.pairwise_cons.mpr ⟨fun u inserted => ?_, ih tail firstTail⟩
      rcases List.mem_cons.mp ((insertSprite_perm v ws).mem_iff.mp inserted) with rfl | inTail
      · exact .inl (lt_of_not_ge right)
      · exact head u inTail

/-- The sort is stable: a list in OAM order comes out in the order of the visible list. -/
theorem sortSprites_before {vs : List VisibleSprite} (oamOrder : vs.Pairwise fun v w => v.index < w.index) :
    (sortSprites vs).Pairwise VisibleSprite.Before := by
  induction vs with
  | nil => exact .nil
  | cons v vs ih =>
    obtain ⟨first, rest⟩ := List.pairwise_cons.mp oamOrder
    exact insertSprite_before (ih rest) fun w h => first w ((sortSprites_perm vs).mem_iff.mp h)

theorem pairwise_lt_filter_finRange (p : Fin 40 → Bool) : ((List.finRange 40).filter p).Pairwise (· < ·) :=
  (List.sortedLT_finRange 40).pairwise.filter p

theorem foundSprites_oamOrder (s : State) : (foundSprites s).Pairwise fun v w => v.index < w.index :=
  List.pairwise_map.mpr ((pairwise_lt_filter_finRange (spriteOnLine s)).sublist (List.take_sublist 10 _))

/-- Among the first `n` of an ascending list are its members with fewer than `n` before them. -/
theorem mem_take_iff_of_pairwise_lt {l : List (Fin 40)} (ascending : l.Pairwise (· < ·)) (n : Nat) (k : Fin 40) :
    k ∈ l.take n ↔ k ∈ l ∧ (l.filter fun j => decide (j < k)).length < n := by
  induction l generalizing n with
  | nil => simp
  | cons a l ih =>
    obtain ⟨first, rest⟩ := List.pairwise_cons.mp ascending
    cases n with
    | zero => simp
    | succ n =>
      rw [List.take_succ_cons, List.mem_cons, List.mem_cons, ih rest]
      by_cases same : k = a
      · have noneBefore : (l.filter fun j => decide (j < a)) = [] :=
          List.filter_eq_nil_iff.mpr fun j h => by simpa using le_of_lt (first j h)
        simp [same, noneBefore]
      · by_cases inTail : k ∈ l
        · simp [same, inTail, first k inTail]
        · simp [same, inTail]

theorem onLine_eq (s : State) (k : Fin 40) : onLine s k = spriteOnLine s k := Bool.decide_and _ _

theorem mem_foundSprites {s : State} {v : VisibleSprite} :
    v ∈ foundSprites s ↔
      onLine s v.index = true ∧ v.screenX = ((oamEntry s v.index 1).toNat : Int) - 8 ∧
        ((List.finRange 40).filter (fun k => decide (k < v.index) && onLine s k)).length < 10 := by
  have first (k : Fin 40) : k ∈ ((List.finRange 40).filter (spriteOnLine s)).take 10 ↔
      onLine s k = true ∧ ((List.finRange 40).filter (fun j => decide (j < k) && onLine s j)).length < 10 := by
    rw [mem_take_iff_of_pairwise_lt (pairwise_lt_filter_finRange _), List.filter_filter, List.mem_filter]
    simp only [List.mem_finRange, true_and, onLine_eq]
  have screenX (k : Fin 40) : (visibleEntry s k).screenX = ((oamEntry s k 1).toNat : Int) - 8 := rfl
  unfold foundSprites
  rw [List.mem_map]
  constructor
  · rintro ⟨k, taken, rfl⟩
    obtain ⟨line, few⟩ := (first k).mp taken
    exact ⟨line, screenX k, few⟩
  · rintro ⟨line, x, few⟩
    refine ⟨v.index, (first v.index).mpr ⟨line, few⟩, ?_⟩
    cases v
    rw [VisibleSprite.mk.injEq]
    exact ⟨rfl, x.symm⟩

/-- Settles O51: the search sorts the sprites found, which changes neither which they are nor the order of equal ones. -/
theorem oamSearch : Obligations.OamSearch := by
  intro s found
  refine ⟨rfl, sortSprites_before (foundSprites_oamOrder s), fun v => ?_⟩
  exact (sortSprites_perm (foundSprites s)).mem_iff.trans mem_foundSprites

/-! The tile fetch. -/

theorem vramByte_of_vram {s : State} {a : Nat} (low : 0x8000 ≤ a) (high : a < 0xA000) :
    vramByte s (a : Int) = readByte s.mem a := by
  unfold vramByte
  rw [if_pos (by omega), Int.toNat_natCast]

theorem mapBase_bounds (p : Ppu) : 0x9800 ≤ mapBase p ∧ mapBase p ≤ 0x9C00 := by
  unfold mapBase
  split_ifs <;> decide

theorem tileColumn_lt (p : Ppu) : tileColumn p < 32 := by
  unfold tileColumn
  split_ifs <;> exact Nat.mod_lt _ (by decide)

theorem tileY_lt (p : Ppu) : tileY p < 256 := by
  unfold tileY
  split_ifs
  · exact p.windowLineInternal.isLt
  · exact Nat.mod_lt _ (by decide)

/-- The first address of a tile's data, below 0x9000 for the upper half of the signed tile numbers. -/
def tileBase (p : Ppu) (id : Byte) : Nat :=
  if p.lcdc.getLsbD 4 then 0x8000 + 16 * id.toNat
  else if id.toNat < 128 then 0x9000 + 16 * id.toNat else 0x8000 + 16 * id.toNat

theorem tileData_eq (p : Ppu) (id : Byte) : tileData p id = (tileBase p id : Int) := by
  unfold tileData tileBase
  rw [BitVec.toInt_eq_toNat_cond]
  split_ifs <;> omega

theorem tileBase_bounds (p : Ppu) (id : Byte) : 0x8000 ≤ tileBase p id ∧ tileBase p id ≤ 0x97F0 := by
  have := id.isLt
  unfold tileBase
  split_ifs <;> omega

/-- Every byte of a tile fetch lies in VRAM. -/
theorem tileRow_eq (s : State) :
    tileRow s =
      let id := readByte s.mem (mapBase s.ppu + 32 * (tileY s.ppu / 8) + tileColumn s.ppu)
      let line := tileBase s.ppu id + 2 * (tileY s.ppu % 8)
      (List.range 8).map fun i => planeColour (readByte s.mem (line + 1)) (readByte s.mem line) (7 - i) := by
  obtain ⟨mapLow, mapHigh⟩ := mapBase_bounds s.ppu
  have column := tileColumn_lt s.ppu
  have row := tileY_lt s.ppu
  unfold tileRow
  rw [vramByte_of_vram (by omega) (by omega)]
  dsimp only
  generalize readByte s.mem _ = id
  obtain ⟨low, high⟩ := tileBase_bounds s.ppu id
  have line : tileData s.ppu id + ((2 * (tileY s.ppu % 8) : Nat) : Int) =
      ((tileBase s.ppu id + 2 * (tileY s.ppu % 8) : Nat) : Int) := by
    rw [tileData_eq]
    norm_cast
  have next : ((tileBase s.ppu id + 2 * (tileY s.ppu % 8) : Nat) : Int) + 1 =
      ((tileBase s.ppu id + 2 * (tileY s.ppu % 8) + 1 : Nat) : Int) := by norm_cast
  rw [line, next, vramByte_of_vram (by omega) (by omega), vramByte_of_vram (by omega) (by omega)]

/-- Settles O52: the fetch by `tileRow_eq`, the refill by its definition. -/
theorem tileRowRule : Obligations.TileRow := by
  intro s p map col y id data lo hi
  refine ⟨?_, rfl⟩
  rw [tileRow_eq]
  simp only [planeColour_eq]
  rfl

/-! The sprite merge. -/

theorem mergePixels_getElem? {slots pixels : List OamPixel} {i : Nat} {slot px : OamPixel}
    (hs : slots[i]? = some slot) (hp : pixels[i]? = some px) :
    (mergePixels slots pixels)[i]? = some (if slot.colour = 0 then px else slot) := by
  induction slots generalizing pixels i with
  | nil => cases hs
  | cons first slots ih =>
    cases pixels with
    | nil => cases hp
    | cons top pixels =>
      cases i with
      | zero =>
        cases hs
        cases hp
        rfl
      | succ i => exact ih hs hp

theorem padOamFifo_getElem? (fifo : List OamPixel) {i : Nat} (inEight : i < 8) :
    (padOamFifo fifo)[i]? = some (fifo.getD i { colour := 0, palette := false, priority := false }) := by
  unfold padOamFifo
  rw [List.getElem?_append, List.getElem?_replicate, List.getD_eq_getElem?_getD]
  split_ifs with held
  · rw [List.getElem?_eq_getElem held]
    rfl
  · rw [List.getElem?_eq_none (Nat.le_of_not_lt held)]
    rfl
  · omega

theorem spriteTile_eq (p : Ppu) (tile : Byte) :
    spriteTile p tile = if p.lcdc.getLsbD 2 then tile &&& 0xFE else tile := by
  unfold spriteTile spriteHeight
  cases p.lcdc.getLsbD 2 <;> rfl

theorem spriteRow_eq (p : Ppu) (y attr : Byte) :
    spriteRow p y attr =
      if attr.getLsbD 6 then (if p.lcdc.getLsbD 2 then 16 else 8) - 1 - ((p.ly.toNat : Int) + 16 - y.toNat)
      else (p.ly.toNat : Int) + 16 - y.toNat := by
  unfold spriteRow spriteHeight
  cases p.lcdc.getLsbD 2 <;> rfl

/-- Settles O53: the slot padded and the pixel of the sprite at the same place, merged. -/
theorem mergeSpriteRule : Obligations.MergeSpriteRule := by
  intro s k i inEight attr h straight row tile lo hi b px slot
  have pixel : (spritePixels s k)[i]? = some px := by
    unfold spritePixels
    rw [List.getElem?_map, List.getElem?_range inEight, spriteTile_eq, spriteRow_eq]
    simp only [planeColour_eq]
    rfl
  exact ⟨mergePixels_getElem? (padOamFifo_getElem? s.ppu.oamFifo inEight) pixel, mergeSprite_length s k, rfl⟩

/-! Mixing. -/

/-- Settles O54: the pixel written is the mixed one, at the cursor. -/
theorem mixing : Obligations.Mixing := by
  intro s bg onScreen onLine t shade
  have frame : t.frame = writePixel s.frame s.ppu.drawX s.ppu.ly.toNat shade := by
    have mixed : mixShade s.ppu bg = shade := by
      unfold mixShade shade
      cases s.ppu.oamFifo with
      | nil => exact paletteShade_eq _ _
      | cons px rest =>
        simp only [paletteShade_eq]
        by_cases wins : px.colour ≠ 0 ∧ ¬(px.priority = true ∧ bg ≠ 0)
        · rw [if_pos wins, if_neg (by tauto)]
        · rw [if_neg wins, if_pos (by tauto)]
    show (commitPixel s bg).frame = _
    rw [commitPixel_frameBuffer, if_pos onScreen, mixed]
  refine ⟨?_, fun x y inRow other => ?_, ?_⟩
  · rw [frame, readPixel_writePixel _ _ onLine onLine, if_pos ⟨rfl, rfl⟩]
  · rw [frame, readPixel_writePixel _ _ onLine inRow, if_neg fun same => other (Prod.ext same.1 same.2)]
  · have ppu : t.ppu = _ := commitPixel_ppu s bg
    have kept : PixelFrame s t := commitPixel_frame s bg
    unfold PixelFrame at kept
    rw [← ppu]
    generalize t = t' at kept
    rw [kept]

/-! The window trigger. -/

theorem windowTriggers_eq (p : Ppu) :
    windowTriggers p = decide (p.windowActive = false ∧ p.lcdc.getLsbD 5 = true ∧ p.wy.toNat ≤ p.ly.toNat ∧
      p.wx.toNat ≤ p.drawX + 7) := by
  unfold windowTriggers
  cases p.windowActive <;> cases p.lcdc.getLsbD 5 <;> simp

theorem refillBackground_windowActive (s : State) : (refillBackground s).ppu.windowActive = s.ppu.windowActive := by
  unfold refillBackground
  split <;> rfl

theorem mergeSprite_foldl_windowActive (vs : List VisibleSprite) (s : State) :
    (vs.foldl (fun t v => mergeSprite t v.index) s).ppu.windowActive = s.ppu.windowActive := by
  induction vs generalizing s with
  | nil => rfl
  | cons v vs ih => exact ih (mergeSprite s v.index)

theorem mergeSprites_windowActive (s : State) : (mergeSprites s).ppu.windowActive = s.ppu.windowActive := by
  unfold mergeSprites
  split
  · exact mergeSprite_foldl_windowActive _ s
  · rfl

/-- Of the steps of an iteration only the first writes `window_active`. -/
theorem pixelIteration_windowActive (s : State) :
    (pixelIteration s).ppu.windowActive = (s.ppu.windowActive || windowTriggers s.ppu) := by
  obtain ⟨-, -, -, -, -, started⟩ := startWindow_ppu s
  have fetched := (refillBackground_windowActive (startWindow s)).trans started
  unfold pixelIteration
  generalize refillBackground (startWindow s) = t at fetched ⊢
  dsimp only
  cases t.ppu.bgFifo with
  | nil => exact fetched
  | cons bg rest =>
    dsimp only
    split
    · exact fetched
    · rw [commitPixel_ppu]
      exact (mergeSprites_windowActive _).trans fetched

/-- Settles O55: step 1 of an iteration by its trigger, which no later step of it undoes. -/
theorem windowTrigger : Obligations.WindowTrigger := by
  intro s fires
  have trigger : windowTriggers s.ppu = fires := windowTriggers_eq s.ppu
  rw [pixelIteration_windowActive, startWindow, trigger]
  exact ⟨rfl, rfl⟩

end Sys2Proof.Machine
end

section
/-! The family 60_exceptions.md, the requests of the PPU. VBlank at the step that makes LY 144 (R320), STAT at a 0 to 1
transition of its condition (R322). -/

namespace Sys2Proof.Machine

/-- What a PPU step has requested, once its mode machine ran from `s` to `t`: source 0 exactly where LY went from 143 to 144;
the STAT latch stands (R320). -/
structure ModeRequested (s t : State) : Prop where
  irq : t.irq = { s.irq with iflag := s.irq.iflag ||| (if s.ppu.ly = 143 ∧ t.ppu.ly = 144 then 0x01 else 0x00) }
  latch : t.ppu.statIrqLatched = s.ppu.statIrqLatched

/-- Where LY does not become 144 nothing is requested. -/
theorem ModeRequested.none {s t : State} (later : ¬(s.ppu.ly = 143 ∧ t.ppu.ly = 144)) (irq : t.irq = s.irq)
    (latch : t.ppu.statIrqLatched = s.ppu.statIrqLatched) : ModeRequested s t :=
  ⟨by rw [if_neg later, irq]; exact congrArg (Irq.mk · s.irq.ie) BitVec.or_zero.symm, latch⟩

theorem ModeRequested.of_ly_eq {s t : State} (ly : t.ppu.ly = s.ppu.ly) (irq : t.irq = s.irq)
    (latch : t.ppu.statIrqLatched = s.ppu.statIrqLatched) : ModeRequested s t :=
  .none (fun ⟨before, after⟩ => absurd (before.symm.trans (ly.symm.trans after)) (by decide)) irq latch

theorem PixelFrame.statIrqLatched {s t : State} (h : PixelFrame s t) : t.ppu.statIrqLatched = s.ppu.statIrqLatched := by
  rw [h]

theorem oamSearchMode_requested (s : State) : ModeRequested s (oamSearchMode s) := by
  unfold oamSearchMode
  split <;> exact .of_ly_eq rfl rfl rfl

theorem pixelTransferMode_requested (s : State) : ModeRequested s (pixelTransferMode s) := by
  have pixels := pixelIterations_frame s.params.pixelItersPerTick s
  unfold pixelTransferMode
  dsimp only
  split <;> exact .of_ly_eq pixels.ly pixels.irq pixels.statIrqLatched

theorem hBlankMode_requested (s : State) : ModeRequested s (hBlankMode s) := by
  unfold hBlankMode
  dsimp only
  split_ifs with lineEnds vBlank
  · have before : s.ppu.ly = 143 := by bv_omega
    refine ⟨?_, rfl⟩
    rw [if_pos ⟨before, vBlank⟩]
    rfl
  · exact .none (fun h => vBlank h.2) rfl rfl
  · exact .of_ly_eq rfl rfl rfl

/-- In VBlank LY is past 143. -/
theorem vBlankMode_requested {s : State} (past : 144 ≤ s.ppu.ly.toNat) : ModeRequested s (vBlankMode s) := by
  have later (t : State) : ¬(s.ppu.ly = 143 ∧ t.ppu.ly = 144) := fun h => by
    rw [h.1] at past
    exact absurd past (by decide)
  unfold vBlankMode
  dsimp only
  split_ifs <;> exact .none (later _) rfl rfl

theorem modeStep_requested {s : State} (past : s.ppu.mode = .vBlank → 144 ≤ s.ppu.ly.toNat) :
    ModeRequested s (modeStep s) := by
  unfold modeStep
  cases mode : s.ppu.mode with
  | hBlank => exact hBlankMode_requested s
  | vBlank => exact vBlankMode_requested (past mode)
  | oamSearch => exact oamSearchMode_requested s
  | pixelTransfer => exact pixelTransferMode_requested s

theorem Ppu.timing.past_of_vBlank {p : Ppu} {rate : Nat} (h : p.timing rate) (mode : p.mode = .vBlank) :
    144 ≤ p.ly.toNat := by
  unfold Ppu.timing at h
  rw [mode] at h
  exact h.1

theorem statLine_eq (p : Ppu) : statLine p = statCondition p := by
  unfold statLine statCondition
  simp [Bool.or_assoc, beq_eq_decide]

theorem statUpdate_irq (s : State) :
    (statUpdate s).irq =
      { s.irq with iflag := s.irq.iflag |||
          (if statCondition s.ppu = true ∧ s.ppu.statIrqLatched = false then 0x02 else 0x00) } := by
  unfold statUpdate
  rw [statLine_eq]
  dsimp only
  split_ifs
  · rfl
  · exact congrArg (Irq.mk · s.irq.ie) BitVec.or_zero.symm

/-- Settles O56: the mode machine makes the first request, `StatUpdate` the second. -/
theorem ppuRequestsExactly : Obligations.PpuRequestsExactly := by
  intro s inv p
  have modes := modeStep_requested (s := countPpu s) inv.timing.past_of_vBlank
  have updated := statUpdate_frame (modeStep (countPpu s))
  have stat := statUpdate_irq (modeStep (countPpu s))
  have ppu : p = { (modeStep (countPpu s)).ppu with statIrqLatched := statLine (modeStep (countPpu s)).ppu } :=
    congrArg State.ppu updated
  refine ⟨?_, ?_⟩
  · show (statUpdate (modeStep (countPpu s))).irq = _
    rw [stat, modes.irq, modes.latch, ppu]
    rfl
  · rw [ppu, ← statLine_eq]
    rfl

end Sys2Proof.Machine
end
